-- ==== Sys2Proof/Word.lean ====
section
/-! DEFINITION. The two word types of the machine: the 8-bit data unit and the 16-bit address or pair
(spec/00_scope.md R5). Bit fields, sign extension and byte order are in Sys2Proof/Machine/Bits.lean. -/

namespace Sys2Proof

/-- The 8-bit data unit of memory, I/O and the main registers (R5). -/
abbrev Byte := BitVec 8

/-- A 16-bit address, register pair or immediate (R5). -/
abbrev Word := BitVec 16

end Sys2Proof
end

