-- ==== Sys2Proof/Machine/Bits.lean ====
section
/-! DEFINITION. Byte order, bit fields and sign extension (spec/00_scope.md R6, 20_memory.md R62,
30_encoding.md R101). -/

namespace Sys2Proof.Machine

/-- `v[15:8]`. -/
def hiByte (v : Word) : Byte := v.extractLsb' 8 8

/-- `v[7:0]`. -/
def loByte (v : Word) : Byte := v.extractLsb' 0 8

/-- The concatenation `h:l`, h in the high bits (R6). -/
def mkWord (h l : Byte) : Word := h ++ l

/-- `sext_16(d)`: the 16-bit sign extension of a displacement (R101). -/
def sext16 (d : Byte) : Word := d.signExtend 16

/-- The least significant bit of a flag read as a number. -/
def bitNat (b : Bool) : Nat := if b then 1 else 0

/-- The value of the Boolean `b` placed at bit `k` of a byte. -/
def bitAt (b : Bool) (k : Nat) : Byte := if b then BitVec.twoPow 8 k else 0

end Sys2Proof.Machine
end

