-- ==== Sys2Proof/Syntax.lean ====
section
/-! DEFINITION. The instructions: one constructor per row of spec/opcode_table.json, with the
operands its encoding has (spec/30_encoding.md R92 to R109, R118 to R120). In the constructors'
names AtHl is (HL), AtIx is (IX+d), AtNn is (nn). The rows with operands stand first
(Lean's compiler numbers no constructor with arguments above 244), each group in the table's order. Don't-care bits of a row's encoding are operands too, so
that decoding drops no bit. -/

namespace Sys2Proof

/-- The 8-bit register code r or s (R93); code 110, (HL), is not a register and has rows of its own. -/
inductive Reg8 where
  | b | c | d | e | h | l | a
  deriving DecidableEq, Repr

/-- The register code r in index context: H and L stand for the index halves (R103). -/
inductive XReg8 where
  | b | c | d | e | xh | xl | a
  deriving DecidableEq, Repr

/-- One half of an index register: high (IXh, IYh) or low (IXl, IYl) (10_state.md R24). -/
inductive Half where
  | hi | lo
  deriving DecidableEq, Repr

/-- The index context IX or IY (R102). -/
inductive Index where
  | ix | iy
  deriving DecidableEq, Repr

/-- The pair code p (R94). -/
inductive Pair where
  | bc | de | hl | sp
  deriving DecidableEq, Repr

/-- The pair code p in index context, where code 10 names IX or IY (R94, R103). -/
inductive XPair where
  | bc | de | xx | sp
  deriving DecidableEq, Repr

/-- The pair code q of PUSH and POP (R95). -/
inductive StackPair where
  | bc | de | hl | af
  deriving DecidableEq, Repr

/-- The pointer pair of LD A,(BC), LD A,(DE), LD (BC),A and LD (DE),A (40_load8.md R145, R147). -/
inductive PtrPair where
  | bc | de
  deriving DecidableEq, Repr

/-- The condition code c (R96). -/
inductive Cond where
  | nz | z | nc | c | po | pe | p | m
  deriving DecidableEq, Repr

/-- The condition code of JR c,e: the first four conditions (R96). -/
inductive JrCond where
  | nz | z | nc | c
  deriving DecidableEq, Repr

/-- The instruction set. -/
inductive Instr where
  -- the base page (R118), rows with operands
  /-- LD p,nn, R170. -/
  | ldPNn (p : Pair) (nn : Word)
  /-- LD (BC),A / LD (DE),A, R147. -/
  | ldAtPpA (p : PtrPair)
  /-- INC p, R273. -/
  | incP (p : Pair)
  /-- INC r, R232. -/
  | incR (r : Reg8)
  /-- DEC r, R233. -/
  | decR (r : Reg8)
  /-- LD r,n, R141. -/
  | ldRN (r : Reg8) (n : Byte)
  /-- LD (HL),n, R144. -/
  | ldAtHlN (n : Byte)
  /-- ADD HL,p, R270. -/
  | addHlP (p : Pair)
  /-- LD A,(BC) / LD A,(DE), R145. -/
  | ldAAtPp (p : PtrPair)
  /-- DEC p, R274. -/
  | decP (p : Pair)
  /-- DJNZ e, R345. -/
  | djnz (e : Byte)
  /-- JR e, R342. -/
  | jr (e : Byte)
  /-- JR c,e, R343. -/
  | jrC (cc : JrCond) (e : Byte)
  /-- LD (nn),HL, R173. -/
  | ldAtNnHl (nn : Word)
  /-- LD HL,(nn), R171. -/
  | ldHlAtNn (nn : Word)
  /-- LD (nn),A, R148. -/
  | ldAtNnA (nn : Word)
  /-- LD A,(nn), R146. -/
  | ldAAtNn (nn : Word)
  /-- LD r,s, R140. -/
  | ldRS (r : Reg8) (r2 : Reg8)
  /-- LD r,(HL), R142. -/
  | ldRAtHl (r : Reg8)
  /-- LD (HL),s, R143. -/
  | ldAtHlS (r : Reg8)
  /-- ADD A,s, R224. -/
  | addS (r : Reg8)
  /-- ADD A,n, R224. -/
  | addN (n : Byte)
  /-- ADC A,s, R225. -/
  | adcS (r : Reg8)
  /-- ADC A,n, R225. -/
  | adcN (n : Byte)
  /-- SUB s, R226. -/
  | subS (r : Reg8)
  /-- SUB n, R226. -/
  | subN (n : Byte)
  /-- SBC A,s, R227. -/
  | sbcS (r : Reg8)
  /-- SBC A,n, R227. -/
  | sbcN (n : Byte)
  /-- AND s, R228. -/
  | andS (r : Reg8)
  /-- AND n, R228. -/
  | andN (n : Byte)
  /-- XOR s, R229. -/
  | xorS (r : Reg8)
  /-- XOR n, R229. -/
  | xorN (n : Byte)
  /-- OR s, R230. -/
  | orS (r : Reg8)
  /-- OR n, R230. -/
  | orN (n : Byte)
  /-- CP s, R231. -/
  | cpS (r : Reg8)
  /-- CP n, R231. -/
  | cpN (n : Byte)
  /-- RET c, R349. -/
  | retC (cc : Cond)
  /-- POP q, R177. -/
  | popQ (q : StackPair)
  /-- JP c,nn, R341. -/
  | jpC (cc : Cond) (nn : Word)
  /-- JP nn, R340. -/
  | jp (nn : Word)
  /-- CALL c,nn, R347. -/
  | callC (cc : Cond) (nn : Word)
  /-- PUSH q, R176. -/
  | pushQ (q : StackPair)
  /-- RST t, R352. -/
  | rst (k : BitVec 3)
  /-- CALL nn, R346. -/
  | call (nn : Word)
  /-- OUT (n),A, R373. -/
  | outNA (n : Byte)
  /-- IN A,(n), R370. -/
  | inAN (n : Byte)
  -- the CB page (R109), rows with operands
  /-- RLC r, R295. -/
  | rlcR (r : Reg8)
  /-- RRC r, R296. -/
  | rrcR (r : Reg8)
  /-- RL r, R297. -/
  | rlR (r : Reg8)
  /-- RR r, R298. -/
  | rrR (r : Reg8)
  /-- SLA r, R299. -/
  | slaR (r : Reg8)
  /-- SRA r, R300. -/
  | sraR (r : Reg8)
  /-- SLL r, R301. -/
  | sllR (r : Reg8)
  /-- SRL r, R302. -/
  | srlR (r : Reg8)
  /-- BIT b,r, R320. -/
  | bitR (b : BitVec 3) (r : Reg8)
  /-- BIT b,(HL), R320. -/
  | bitAtHl (b : BitVec 3)
  /-- RES b,r, R322. -/
  | resR (b : BitVec 3) (r : Reg8)
  /-- RES b,(HL), R322. -/
  | resAtHl (b : BitVec 3)
  /-- SET b,r, R321. -/
  | setR (b : BitVec 3) (r : Reg8)
  /-- SET b,(HL), R321. -/
  | setAtHl (b : BitVec 3)
  -- the ED page (R119), rows with operands
  /-- IN r,(C), R371. -/
  | inRC (r : Reg8)
  /-- OUT (C),r, R374. -/
  | outCR (r : Reg8)
  /-- SBC HL,p, R272. -/
  | sbcHlP (p : Pair)
  /-- ADC HL,p, R271. -/
  | adcHlP (p : Pair)
  /-- LD (nn),p, R174. -/
  | ldAtNnP (p : Pair) (nn : Word)
  /-- LD p,(nn), R172. -/
  | ldPAtNn (p : Pair) (nn : Word)
  /-- NEG, R252. -/
  | neg (x : BitVec 3)
  /-- RETN, R351. -/
  | retn (x : BitVec 3)
  /-- IM 0, R259. -/
  | im0 (x1 : Bool) (x0 : Bool)
  /-- IM 1, R260. -/
  | im1 (x1 : Bool)
  /-- IM 2, R261. -/
  | im2 (x1 : Bool)
  /-- NOP (undefined ED opcode), R262. -/
  | nopEd (op : Byte)
  -- the DD page (R120), rows with operands
  /-- ADD IX,p, R270. -/
  | addIxP (p : XPair)
  /-- LD IX,nn, R170. -/
  | ldIxNn (nn : Word)
  /-- LD (nn),IX, R173. -/
  | ldAtNnIx (nn : Word)
  /-- LD IXh,n, R141. -/
  | ldIxhN (n : Byte)
  /-- LD IX,(nn), R171. -/
  | ldIxAtNn (nn : Word)
  /-- LD IXl,n, R141. -/
  | ldIxlN (n : Byte)
  /-- INC (IX+d), R232. -/
  | incAtIx (d : Byte)
  /-- DEC (IX+d), R233. -/
  | decAtIx (d : Byte)
  /-- LD (IX+d),n, R144. -/
  | ldAtIxN (d : Byte) (n : Byte)
  /-- LD r,s (IXh/IXl), R140. -/
  | ldRSIx (r : XReg8) (r2 : XReg8)
  /-- LD r,(IX+d), R142. -/
  | ldRAtIx (r : Reg8) (d : Byte)
  /-- LD (IX+d),s, R143. -/
  | ldAtIxS (d : Byte) (r : Reg8)
  /-- ADD A,IXh/IXl, R224. -/
  | addIxHalf (h : Half)
  /-- ADD A,(IX+d), R224. -/
  | addAtIx (d : Byte)
  /-- ADC A,IXh/IXl, R225. -/
  | adcIxHalf (h : Half)
  /-- ADC A,(IX+d), R225. -/
  | adcAtIx (d : Byte)
  /-- SUB IXh/IXl, R226. -/
  | subIxHalf (h : Half)
  /-- SUB (IX+d), R226. -/
  | subAtIx (d : Byte)
  /-- SBC A,IXh/IXl, R227. -/
  | sbcIxHalf (h : Half)
  /-- SBC A,(IX+d), R227. -/
  | sbcAtIx (d : Byte)
  /-- AND IXh/IXl, R228. -/
  | andIxHalf (h : Half)
  /-- AND (IX+d), R228. -/
  | andAtIx (d : Byte)
  /-- XOR IXh/IXl, R229. -/
  | xorIxHalf (h : Half)
  /-- XOR (IX+d), R229. -/
  | xorAtIx (d : Byte)
  /-- OR IXh/IXl, R230. -/
  | orIxHalf (h : Half)
  /-- OR (IX+d), R230. -/
  | orAtIx (d : Byte)
  /-- CP IXh/IXl, R231. -/
  | cpIxHalf (h : Half)
  /-- CP (IX+d), R231. -/
  | cpAtIx (d : Byte)
  /-- DD ignored, then base opcode, R105. -/
  | ddIgnored (base : Instr)
  -- the FD page (R120), rows with operands
  /-- ADD IY,p, R270. -/
  | addIyP (p : XPair)
  /-- LD IY,nn, R170. -/
  | ldIyNn (nn : Word)
  /-- LD (nn),IY, R173. -/
  | ldAtNnIy (nn : Word)
  /-- LD IYh,n, R141. -/
  | ldIyhN (n : Byte)
  /-- LD IY,(nn), R171. -/
  | ldIyAtNn (nn : Word)
  /-- LD IYl,n, R141. -/
  | ldIylN (n : Byte)
  /-- INC (IY+d), R232. -/
  | incAtIy (d : Byte)
  /-- DEC (IY+d), R233. -/
  | decAtIy (d : Byte)
  /-- LD (IY+d),n, R144. -/
  | ldAtIyN (d : Byte) (n : Byte)
  /-- LD r,s (IYh/IYl), R140. -/
  | ldRSIy (r : XReg8) (r2 : XReg8)
  /-- LD r,(IY+d), R142. -/
  | ldRAtIy (r : Reg8) (d : Byte)
  /-- LD (IY+d),s, R143. -/
  | ldAtIyS (d : Byte) (r : Reg8)
  /-- ADD A,IYh/IYl, R224. -/
  | addIyHalf (h : Half)
  /-- ADD A,(IY+d), R224. -/
  | addAtIy (d : Byte)
  /-- ADC A,IYh/IYl, R225. -/
  | adcIyHalf (h : Half)
  /-- ADC A,(IY+d), R225. -/
  | adcAtIy (d : Byte)
  /-- SUB IYh/IYl, R226. -/
  | subIyHalf (h : Half)
  /-- SUB (IY+d), R226. -/
  | subAtIy (d : Byte)
  /-- SBC A,IYh/IYl, R227. -/
  | sbcIyHalf (h : Half)
  /-- SBC A,(IY+d), R227. -/
  | sbcAtIy (d : Byte)
  /-- AND IYh/IYl, R228. -/
  | andIyHalf (h : Half)
  /-- AND (IY+d), R228. -/
  | andAtIy (d : Byte)
  /-- XOR IYh/IYl, R229. -/
  | xorIyHalf (h : Half)
  /-- XOR (IY+d), R229. -/
  | xorAtIy (d : Byte)
  /-- OR IYh/IYl, R230. -/
  | orIyHalf (h : Half)
  /-- OR (IY+d), R230. -/
  | orAtIy (d : Byte)
  /-- CP IYh/IYl, R231. -/
  | cpIyHalf (h : Half)
  /-- CP (IY+d), R231. -/
  | cpAtIy (d : Byte)
  /-- FD ignored, then base opcode, R105. -/
  | fdIgnored (base : Instr)
  -- the DDCB page (R107), rows with operands
  /-- RLC (IX+d), R295. -/
  | rlcAtIx (d : Byte)
  /-- RLC (IX+d),r, R295. -/
  | rlcAtIxR (d : Byte) (r : Reg8)
  /-- RRC (IX+d), R296. -/
  | rrcAtIx (d : Byte)
  /-- RRC (IX+d),r, R296. -/
  | rrcAtIxR (d : Byte) (r : Reg8)
  /-- RL (IX+d), R297. -/
  | rlAtIx (d : Byte)
  /-- RL (IX+d),r, R297. -/
  | rlAtIxR (d : Byte) (r : Reg8)
  /-- RR (IX+d), R298. -/
  | rrAtIx (d : Byte)
  /-- RR (IX+d),r, R298. -/
  | rrAtIxR (d : Byte) (r : Reg8)
  /-- SLA (IX+d), R299. -/
  | slaAtIx (d : Byte)
  /-- SLA (IX+d),r, R299. -/
  | slaAtIxR (d : Byte) (r : Reg8)
  /-- SRA (IX+d), R300. -/
  | sraAtIx (d : Byte)
  /-- SRA (IX+d),r, R300. -/
  | sraAtIxR (d : Byte) (r : Reg8)
  /-- SLL (IX+d), R301. -/
  | sllAtIx (d : Byte)
  /-- SLL (IX+d),r, R301. -/
  | sllAtIxR (d : Byte) (r : Reg8)
  /-- SRL (IX+d), R302. -/
  | srlAtIx (d : Byte)
  /-- SRL (IX+d),r, R302. -/
  | srlAtIxR (d : Byte) (r : Reg8)
  /-- BIT b,(IX+d), R320. -/
  | bitAtIx (b : BitVec 3) (d : Byte) (z : BitVec 3)
  /-- RES b,(IX+d), R322. -/
  | resAtIx (b : BitVec 3) (d : Byte)
  /-- RES b,(IX+d),r, R322. -/
  | resAtIxR (b : BitVec 3) (d : Byte) (r : Reg8)
  /-- SET b,(IX+d), R321. -/
  | setAtIx (b : BitVec 3) (d : Byte)
  /-- SET b,(IX+d),r, R321. -/
  | setAtIxR (b : BitVec 3) (d : Byte) (r : Reg8)
  -- the FDCB page (R107), rows with operands
  /-- RLC (IY+d), R295. -/
  | rlcAtIy (d : Byte)
  /-- RLC (IY+d),r, R295. -/
  | rlcAtIyR (d : Byte) (r : Reg8)
  /-- RRC (IY+d), R296. -/
  | rrcAtIy (d : Byte)
  /-- RRC (IY+d),r, R296. -/
  | rrcAtIyR (d : Byte) (r : Reg8)
  /-- RL (IY+d), R297. -/
  | rlAtIy (d : Byte)
  /-- RL (IY+d),r, R297. -/
  | rlAtIyR (d : Byte) (r : Reg8)
  /-- RR (IY+d), R298. -/
  | rrAtIy (d : Byte)
  /-- RR (IY+d),r, R298. -/
  | rrAtIyR (d : Byte) (r : Reg8)
  /-- SLA (IY+d), R299. -/
  | slaAtIy (d : Byte)
  /-- SLA (IY+d),r, R299. -/
  | slaAtIyR (d : Byte) (r : Reg8)
  /-- SRA (IY+d), R300. -/
  | sraAtIy (d : Byte)
  /-- SRA (IY+d),r, R300. -/
  | sraAtIyR (d : Byte) (r : Reg8)
  /-- SLL (IY+d), R301. -/
  | sllAtIy (d : Byte)
  /-- SLL (IY+d),r, R301. -/
  | sllAtIyR (d : Byte) (r : Reg8)
  /-- SRL (IY+d), R302. -/
  | srlAtIy (d : Byte)
  /-- SRL (IY+d),r, R302. -/
  | srlAtIyR (d : Byte) (r : Reg8)
  /-- BIT b,(IY+d), R320. -/
  | bitAtIy (b : BitVec 3) (d : Byte) (z : BitVec 3)
  /-- RES b,(IY+d), R322. -/
  | resAtIy (b : BitVec 3) (d : Byte)
  /-- RES b,(IY+d),r, R322. -/
  | resAtIyR (b : BitVec 3) (d : Byte) (r : Reg8)
  /-- SET b,(IY+d), R321. -/
  | setAtIy (b : BitVec 3) (d : Byte)
  /-- SET b,(IY+d),r, R321. -/
  | setAtIyR (b : BitVec 3) (d : Byte) (r : Reg8)
  -- the base page (R118), rows without operands
  /-- NOP, R255. -/
  | nop
  /-- INC (HL), R232. -/
  | incAtHl
  /-- DEC (HL), R233. -/
  | decAtHl
  /-- RLCA, R290. -/
  | rlca
  /-- EX AF,AF', R191. -/
  | exAfAf
  /-- RRCA, R292. -/
  | rrca
  /-- RLA, R291. -/
  | rla
  /-- RRA, R293. -/
  | rra
  /-- DAA, R250. -/
  | daa
  /-- CPL, R251. -/
  | cpl
  /-- SCF, R254. -/
  | scf
  /-- CCF, R253. -/
  | ccf
  /-- HALT, R256. -/
  | halt
  /-- ADD A,(HL), R224. -/
  | addAtHl
  /-- ADC A,(HL), R225. -/
  | adcAtHl
  /-- SUB (HL), R226. -/
  | subAtHl
  /-- SBC A,(HL), R227. -/
  | sbcAtHl
  /-- AND (HL), R228. -/
  | andAtHl
  /-- XOR (HL), R229. -/
  | xorAtHl
  /-- OR (HL), R230. -/
  | orAtHl
  /-- CP (HL), R231. -/
  | cpAtHl
  /-- RET, R348. -/
  | ret
  /-- prefix CB, R109. -/
  | prefixCb
  /-- EXX, R192. -/
  | exx
  /-- prefix DD, R102. -/
  | prefixDd
  /-- EX (SP),HL, R193. -/
  | exAtSpHl
  /-- JP (HL), R344. -/
  | jpHl
  /-- EX DE,HL, R190. -/
  | exDeHl
  /-- prefix ED, R108. -/
  | prefixEd
  /-- DI, R257. -/
  | di
  /-- LD SP,HL, R175. -/
  | ldSpHl
  /-- EI, R258. -/
  | ei
  /-- prefix FD, R102. -/
  | prefixFd
  -- the CB page (R109), rows without operands
  /-- RLC (HL), R295. -/
  | rlcAtHl
  /-- RRC (HL), R296. -/
  | rrcAtHl
  /-- RL (HL), R297. -/
  | rlAtHl
  /-- RR (HL), R298. -/
  | rrAtHl
  /-- SLA (HL), R299. -/
  | slaAtHl
  /-- SRA (HL), R300. -/
  | sraAtHl
  /-- SLL (HL), R301. -/
  | sllAtHl
  /-- SRL (HL), R302. -/
  | srlAtHl
  -- the ED page (R119), rows without operands
  /-- IN (C), R372. -/
  | inC
  /-- OUT (C),0, R375. -/
  | outC0
  /-- RETI, R350. -/
  | reti
  /-- LD I,A, R151. -/
  | ldIA
  /-- LD R,A, R152. -/
  | ldRA
  /-- LD A,I, R149. -/
  | ldAI
  /-- LD A,R, R150. -/
  | ldAR
  /-- RRD, R304. -/
  | rrd
  /-- RLD, R303. -/
  | rld
  /-- LDI, R194. -/
  | ldi
  /-- CPI, R198. -/
  | cpi
  /-- INI, R377. -/
  | ini
  /-- OUTI, R381. -/
  | outi
  /-- LDD, R196. -/
  | ldd
  /-- CPD, R200. -/
  | cpd
  /-- IND, R379. -/
  | ind
  /-- OUTD, R383. -/
  | outd
  /-- LDIR, R195. -/
  | ldir
  /-- CPIR, R199. -/
  | cpir
  /-- INIR, R378. -/
  | inir
  /-- OTIR, R382. -/
  | otir
  /-- LDDR, R197. -/
  | lddr
  /-- CPDR, R201. -/
  | cpdr
  /-- INDR, R380. -/
  | indr
  /-- OTDR, R384. -/
  | otdr
  -- the DD page (R120), rows without operands
  /-- INC IX, R273. -/
  | incIx
  /-- INC IXh, R232. -/
  | incIxh
  /-- DEC IXh, R233. -/
  | decIxh
  /-- DEC IX, R274. -/
  | decIx
  /-- INC IXl, R232. -/
  | incIxl
  /-- DEC IXl, R233. -/
  | decIxl
  /-- prefix DDCB, R107. -/
  | prefixDdCb
  /-- POP IX, R177. -/
  | popIx
  /-- EX (SP),IX, R193. -/
  | exAtSpIx
  /-- PUSH IX, R176. -/
  | pushIx
  /-- JP (IX), R344. -/
  | jpIx
  /-- LD SP,IX, R175. -/
  | ldSpIx
  /-- DD then prefix DD (first prefix ignored), R106. -/
  | ddThenDd
  /-- DD then prefix FD (first prefix ignored), R106. -/
  | ddThenFd
  /-- DD then prefix ED (first prefix ignored), R106. -/
  | ddThenEd
  -- the FD page (R120), rows without operands
  /-- INC IY, R273. -/
  | incIy
  /-- INC IYh, R232. -/
  | incIyh
  /-- DEC IYh, R233. -/
  | decIyh
  /-- DEC IY, R274. -/
  | decIy
  /-- INC IYl, R232. -/
  | incIyl
  /-- DEC IYl, R233. -/
  | decIyl
  /-- prefix FDCB, R107. -/
  | prefixFdCb
  /-- POP IY, R177. -/
  | popIy
  /-- EX (SP),IY, R193. -/
  | exAtSpIy
  /-- PUSH IY, R176. -/
  | pushIy
  /-- JP (IY), R344. -/
  | jpIy
  /-- LD SP,IY, R175. -/
  | ldSpIy
  /-- FD then prefix DD (first prefix ignored), R106. -/
  | fdThenDd
  /-- FD then prefix FD (first prefix ignored), R106. -/
  | fdThenFd
  /-- FD then prefix ED (first prefix ignored), R106. -/
  | fdThenEd
  deriving DecidableEq, Repr

end Sys2Proof
end

