-- ==== Sys2Proof/WellFormed.lean ====
section
/-! DEFINITION. Which terms of Instr are instructions: the checks that the operand types do not make.
A row whose encoding excludes an opcode (spec/opcode_table.json, `excludes`) has a check here where the
excluded opcode is another row's. -/

namespace Sys2Proof

/-- The register is not H or L, so a DD or FD prefix does not change an opcode that names it
(30_encoding.md R105). -/
def Reg8.plain : Reg8 → Bool
  | .h | .l => false
  | .b | .c | .d | .e | .a => true

/-- The pair is not HL (R105). -/
def Pair.plain : Pair → Bool
  | .hl => false
  | .bc | .de | .sp => true

/-- The pair is not HL (R105). -/
def StackPair.plain : StackPair → Bool
  | .hl => false
  | .bc | .de | .af => true

/-- The operand is one of the two index halves. -/
def XReg8.isHalf : XReg8 → Bool
  | .xh | .xl => true
  | .b | .c | .d | .e | .a => false

/-- A base-page instruction that names neither HL, H, L nor (HL) in the sense of R103 and R104, so that a DD
or FD prefix before it is ignored (R105). The prefix rows and the instructions of the other pages are not
base-page instructions that a prefix could stand before. -/
def Instr.ignoresIndex : Instr → Bool
  | .nop | .rlca | .rrca | .rla | .rra | .daa | .cpl | .scf | .ccf | .exAfAf | .halt => true
  | .ldPNn p _ | .incP p | .decP p => p.plain
  | .ldAtPpA _ | .ldAAtPp _ | .ldAtNnA _ | .ldAAtNn _ => true
  | .incR r | .decR r | .ldRN r _ => r.plain
  | .ldRS r r2 => r.plain && r2.plain
  | .djnz _ | .jr _ | .jrC _ _ => true
  | .addS r | .adcS r | .subS r | .sbcS r | .andS r | .xorS r | .orS r | .cpS r => r.plain
  | .addN _ | .adcN _ | .subN _ | .sbcN _ | .andN _ | .xorN _ | .orN _ | .cpN _ => true
  | .retC _ | .jpC _ _ | .jp _ | .callC _ _ | .call _ | .rst _ | .ret => true
  | .popQ q | .pushQ q => q.plain
  | .outNA _ | .inAN _ | .exx | .exDeHl | .di | .ei => true
  | _ => false

/-- An ED opcode that no other ED row has (44_general.md R262, 30_encoding.md R119): 0x00 to 0x3F, 0x77,
0x7F, 0x80 to 0x9F, 0xA0 to 0xBF with low three bits 4 to 7, and 0xC0 to 0xFF. -/
def edUndefined (op : Byte) : Bool :=
  let n := op.toNat
  n < 0x40 || n == 0x77 || n == 0x7F || (0x80 ≤ n && n < 0xA0) || (0xA0 ≤ n && n < 0xC0 && 4 ≤ n % 8) || 0xC0 ≤ n

/-- The checks, one for each row that needs one; every other term is an instruction. -/
def Instr.wellFormed : Instr → Bool
  | .ldRSIx r r2 | .ldRSIy r r2 => r.isHalf || r2.isHalf   -- else the prefix is ignored (R140)
  | .retn x => x ≠ 1#3                                      -- ED 4D is RETI (R351)
  | .nopEd op => edUndefined op                             -- R262
  | .ddIgnored base | .fdIgnored base => base.ignoresIndex  -- R105
  | _ => true

end Sys2Proof
end

