-- ==== Sys2Proof/Decode.lean ====
section
/-! DEFINITION. The decoder (spec/30_encoding.md R90 to R120), total on any list of bytes, and the encoder,
written from the same tables. The decoder takes the bytes from the first on and answers the instruction and
the bytes after it. It refuses, by name, only a list that ends inside an instruction. A list that holds
nothing but prefix bytes is that prefix's own row of the opcode table. -/

namespace Sys2Proof

open Sys2Proof.Machine

/-- Why the decoder answers no instruction. -/
inductive DecodeError where
  /-- The list of bytes ends before the instruction does. -/
  | truncated
  deriving DecidableEq, Repr

/-- What the decoder answers: an instruction and the bytes after it, or a refusal. -/
inductive Decoded where
  | ok (i : Instr) (rest : List Byte)
  | error (e : DecodeError)
  deriving DecidableEq, Repr

/-! The fields of an opcode byte (R92). -/

/-- `x = op[7:6]`. -/
def opX (op : Byte) : Nat := op.toNat / 64
/-- `y = op[5:3]`. -/
def opY (op : Byte) : Nat := op.toNat / 8 % 8
/-- `z = op[2:0]`. -/
def opZ (op : Byte) : Nat := op.toNat % 8
/-- `p = op[5:4]`. -/
def opP (op : Byte) : Nat := op.toNat / 16 % 4
/-- `q = op[3]`. -/
def opQ (op : Byte) : Nat := op.toNat / 8 % 2

/-! The operand tables. -/

/-- R93; code 110 is (HL) and names no register. -/
def Reg8.ofCode : Nat → Option Reg8
  | 0 => some .b
  | 1 => some .c
  | 2 => some .d
  | 3 => some .e
  | 4 => some .h
  | 5 => some .l
  | 7 => some .a
  | _ => none

/-- R93 in index context (R103). -/
def XReg8.ofCode : Nat → Option XReg8
  | 0 => some .b
  | 1 => some .c
  | 2 => some .d
  | 3 => some .e
  | 4 => some .xh
  | 5 => some .xl
  | 7 => some .a
  | _ => none

/-- R94. -/
def Pair.ofCode : Nat → Pair
  | 0 => .bc
  | 1 => .de
  | 2 => .hl
  | _ => .sp

/-- R94 in index context (R103). -/
def XPair.ofCode : Nat → XPair
  | 0 => .bc
  | 1 => .de
  | 2 => .xx
  | _ => .sp

/-- R95. -/
def StackPair.ofCode : Nat → StackPair
  | 0 => .bc
  | 1 => .de
  | 2 => .hl
  | _ => .af

/-- The p bit of LD A,(BC), LD A,(DE), LD (BC),A, LD (DE),A (R145, R147). -/
def PtrPair.ofCode : Nat → PtrPair
  | 0 => .bc
  | _ => .de

/-- R96. -/
def Cond.ofCode : Nat → Cond
  | 0 => .nz
  | 1 => .z
  | 2 => .nc
  | 3 => .c
  | 4 => .po
  | 5 => .pe
  | 6 => .p
  | _ => .m

/-- R96, the 2-bit field of JR. -/
def JrCond.ofCode : Nat → JrCond
  | 0 => .nz
  | 1 => .z
  | 2 => .nc
  | _ => .c

/-- The one of two values that the index context selects. -/
def Index.sel {α : Type} (x : Index) (forIx forIy : α) : α :=
  match x with
  | .ix => forIx
  | .iy => forIy

/-- R97 on a register. -/
def aluReg : Nat → (Reg8 → Instr)
  | 0 => .addS
  | 1 => .adcS
  | 2 => .subS
  | 3 => .sbcS
  | 4 => .andS
  | 5 => .xorS
  | 6 => .orS
  | _ => .cpS

/-- R97 on (HL). -/
def aluAtHl : Nat → Instr
  | 0 => .addAtHl
  | 1 => .adcAtHl
  | 2 => .subAtHl
  | 3 => .sbcAtHl
  | 4 => .andAtHl
  | 5 => .xorAtHl
  | 6 => .orAtHl
  | _ => .cpAtHl

/-- R97 on n. -/
def aluImm : Nat → (Byte → Instr)
  | 0 => .addN
  | 1 => .adcN
  | 2 => .subN
  | 3 => .sbcN
  | 4 => .andN
  | 5 => .xorN
  | 6 => .orN
  | _ => .cpN

/-- R97 on IXh or IXl. -/
def aluIxHalf : Nat → (Half → Instr)
  | 0 => .addIxHalf
  | 1 => .adcIxHalf
  | 2 => .subIxHalf
  | 3 => .sbcIxHalf
  | 4 => .andIxHalf
  | 5 => .xorIxHalf
  | 6 => .orIxHalf
  | _ => .cpIxHalf

/-- R97 on (IX+d). -/
def aluAtIx : Nat → (Byte → Instr)
  | 0 => .addAtIx
  | 1 => .adcAtIx
  | 2 => .subAtIx
  | 3 => .sbcAtIx
  | 4 => .andAtIx
  | 5 => .xorAtIx
  | 6 => .orAtIx
  | _ => .cpAtIx

/-- R97 on IYh or IYl. -/
def aluIyHalf : Nat → (Half → Instr)
  | 0 => .addIyHalf
  | 1 => .adcIyHalf
  | 2 => .subIyHalf
  | 3 => .sbcIyHalf
  | 4 => .andIyHalf
  | 5 => .xorIyHalf
  | 6 => .orIyHalf
  | _ => .cpIyHalf

/-- R97 on (IY+d). -/
def aluAtIy : Nat → (Byte → Instr)
  | 0 => .addAtIy
  | 1 => .adcAtIy
  | 2 => .subAtIy
  | 3 => .sbcAtIy
  | 4 => .andAtIy
  | 5 => .xorAtIy
  | 6 => .orAtIy
  | _ => .cpAtIy

/-- R98 on a register. -/
def rotReg : Nat → (Reg8 → Instr)
  | 0 => .rlcR
  | 1 => .rrcR
  | 2 => .rlR
  | 3 => .rrR
  | 4 => .slaR
  | 5 => .sraR
  | 6 => .sllR
  | _ => .srlR

/-- R98 on (HL). -/
def rotAtHl : Nat → Instr
  | 0 => .rlcAtHl
  | 1 => .rrcAtHl
  | 2 => .rlAtHl
  | 3 => .rrAtHl
  | 4 => .slaAtHl
  | 5 => .sraAtHl
  | 6 => .sllAtHl
  | _ => .srlAtHl

/-- R98 on (IX+d). -/
def rotAtIx : Nat → (Byte → Instr)
  | 0 => .rlcAtIx
  | 1 => .rrcAtIx
  | 2 => .rlAtIx
  | 3 => .rrAtIx
  | 4 => .slaAtIx
  | 5 => .sraAtIx
  | 6 => .sllAtIx
  | _ => .srlAtIx

/-- R98 on (IX+d) with the copy to a register (R294). -/
def rotAtIxR : Nat → (Byte → Reg8 → Instr)
  | 0 => .rlcAtIxR
  | 1 => .rrcAtIxR
  | 2 => .rlAtIxR
  | 3 => .rrAtIxR
  | 4 => .slaAtIxR
  | 5 => .sraAtIxR
  | 6 => .sllAtIxR
  | _ => .srlAtIxR

/-- R98 on (IY+d). -/
def rotAtIy : Nat → (Byte → Instr)
  | 0 => .rlcAtIy
  | 1 => .rrcAtIy
  | 2 => .rlAtIy
  | 3 => .rrAtIy
  | 4 => .slaAtIy
  | 5 => .sraAtIy
  | 6 => .sllAtIy
  | _ => .srlAtIy

/-- R98 on (IY+d) with the copy to a register (R294). -/
def rotAtIyR : Nat → (Byte → Reg8 → Instr)
  | 0 => .rlcAtIyR
  | 1 => .rrcAtIyR
  | 2 => .rlAtIyR
  | 3 => .rrAtIyR
  | 4 => .slaAtIyR
  | 5 => .sraAtIyR
  | 6 => .sllAtIyR
  | _ => .srlAtIyR

/-! Operand bytes (R99 to R101): n, d, e, or d and n, or nn with the low byte first. -/

/-- One operand byte. -/
def takeByte (bs : List Byte) (k : Byte → Instr) : Decoded :=
  match bs with
  | n :: rest => .ok (k n) rest
  | [] => .error .truncated

/-- Two operand bytes, in order. -/
def takeTwo (bs : List Byte) (k : Byte → Byte → Instr) : Decoded :=
  match bs with
  | d :: n :: rest => .ok (k d n) rest
  | _ => .error .truncated

/-- A 16-bit immediate, low byte first (R100). -/
def takeWord (bs : List Byte) (k : Word → Instr) : Decoded :=
  match bs with
  | lo :: hi :: rest => .ok (k (mkWord hi lo)) rest
  | _ => .error .truncated

/-- The base page (R118). The opcodes 0xCB, 0xDD, 0xED and 0xFD are its prefix rows. -/
def decodeBase (op : Byte) (bs : List Byte) : Decoded :=
  let y := opY op
  let p := opP op
  match opX op, opZ op with
  | 0, 0 =>
    match y with
    | 0 => .ok .nop bs
    | 1 => .ok .exAfAf bs
    | 2 => takeByte bs .djnz
    | 3 => takeByte bs .jr
    | _ => takeByte bs (.jrC (JrCond.ofCode (y - 4)))
  | 0, 1 => if opQ op = 0 then takeWord bs (.ldPNn (Pair.ofCode p)) else .ok (.addHlP (Pair.ofCode p)) bs
  | 0, 2 =>
    match y with
    | 0 => .ok (.ldAtPpA .bc) bs
    | 1 => .ok (.ldAAtPp .bc) bs
    | 2 => .ok (.ldAtPpA .de) bs
    | 3 => .ok (.ldAAtPp .de) bs
    | 4 => takeWord bs .ldAtNnHl
    | 5 => takeWord bs .ldHlAtNn
    | 6 => takeWord bs .ldAtNnA
    | _ => takeWord bs .ldAAtNn
  | 0, 3 => if opQ op = 0 then .ok (.incP (Pair.ofCode p)) bs else .ok (.decP (Pair.ofCode p)) bs
  | 0, 4 =>
    match Reg8.ofCode y with
    | some r => .ok (.incR r) bs
    | none => .ok .incAtHl bs
  | 0, 5 =>
    match Reg8.ofCode y with
    | some r => .ok (.decR r) bs
    | none => .ok .decAtHl bs
  | 0, 6 =>
    match Reg8.ofCode y with
    | some r => takeByte bs (.ldRN r)
    | none => takeByte bs .ldAtHlN
  | 0, _ =>
    match y with
    | 0 => .ok .rlca bs
    | 1 => .ok .rrca bs
    | 2 => .ok .rla bs
    | 3 => .ok .rra bs
    | 4 => .ok .daa bs
    | 5 => .ok .cpl bs
    | 6 => .ok .scf bs
    | _ => .ok .ccf bs
  | 1, z =>
    match Reg8.ofCode y, Reg8.ofCode z with
    | some r, some s => .ok (.ldRS r s) bs
    | some r, none => .ok (.ldRAtHl r) bs
    | none, some s => .ok (.ldAtHlS s) bs
    | none, none => .ok .halt bs
  | 2, z =>
    match Reg8.ofCode z with
    | some s => .ok (aluReg y s) bs
    | none => .ok (aluAtHl y) bs
  | _, 0 => .ok (.retC (Cond.ofCode y)) bs
  | _, 1 =>
    match y with
    | 1 => .ok .ret bs
    | 3 => .ok .exx bs
    | 5 => .ok .jpHl bs
    | 7 => .ok .ldSpHl bs
    | _ => .ok (.popQ (StackPair.ofCode p)) bs
  | _, 2 => takeWord bs (.jpC (Cond.ofCode y))
  | _, 3 =>
    match y with
    | 0 => takeWord bs .jp
    | 1 => .ok .prefixCb bs
    | 2 => takeByte bs .outNA
    | 3 => takeByte bs .inAN
    | 4 => .ok .exAtSpHl bs
    | 5 => .ok .exDeHl bs
    | 6 => .ok .di bs
    | _ => .ok .ei bs
  | _, 4 => takeWord bs (.callC (Cond.ofCode y))
  | _, 5 =>
    match y with
    | 1 => takeWord bs .call
    | 3 => .ok .prefixDd bs
    | 5 => .ok .prefixEd bs
    | 7 => .ok .prefixFd bs
    | _ => .ok (.pushQ (StackPair.ofCode p)) bs
  | _, 6 => takeByte bs (aluImm y)
  | _, _ => .ok (.rst (BitVec.ofNat 3 y)) bs

/-- The CB page (R109). -/
def decodeCb (op : Byte) (bs : List Byte) : Decoded :=
  let y := opY op
  let b := BitVec.ofNat 3 y
  match opX op, Reg8.ofCode (opZ op) with
  | 0, some r => .ok (rotReg y r) bs
  | 0, none => .ok (rotAtHl y) bs
  | 1, some r => .ok (.bitR b r) bs
  | 1, none => .ok (.bitAtHl b) bs
  | 2, some r => .ok (.resR b r) bs
  | 2, none => .ok (.resAtHl b) bs
  | _, some r => .ok (.setR b r) bs
  | _, none => .ok (.setAtHl b) bs

/-- The opcodes 0x40 to 0x7F of the ED page (R119, x = 1). -/
def decodeEdOne (op : Byte) (bs : List Byte) : Decoded :=
  let y := opY op
  let p := opP op
  match opZ op with
  | 0 =>
    match Reg8.ofCode y with
    | some r => .ok (.inRC r) bs
    | none => .ok .inC bs
  | 1 =>
    match Reg8.ofCode y with
    | some r => .ok (.outCR r) bs
    | none => .ok .outC0 bs
  | 2 => if opQ op = 0 then .ok (.sbcHlP (Pair.ofCode p)) bs else .ok (.adcHlP (Pair.ofCode p)) bs
  | 3 => if opQ op = 0 then takeWord bs (.ldAtNnP (Pair.ofCode p)) else takeWord bs (.ldPAtNn (Pair.ofCode p))
  | 4 => .ok (.neg (BitVec.ofNat 3 y)) bs
  | 5 => if y = 1 then .ok .reti bs else .ok (.retn (BitVec.ofNat 3 y)) bs
  | 6 =>
    match y with
    | 0 => .ok (.im0 false false) bs
    | 1 => .ok (.im0 false true) bs
    | 2 => .ok (.im1 false) bs
    | 3 => .ok (.im2 false) bs
    | 4 => .ok (.im0 true false) bs
    | 5 => .ok (.im0 true true) bs
    | 6 => .ok (.im1 true) bs
    | _ => .ok (.im2 true) bs
  | _ =>
    match y with
    | 0 => .ok .ldIA bs
    | 1 => .ok .ldRA bs
    | 2 => .ok .ldAI bs
    | 3 => .ok .ldAR bs
    | 4 => .ok .rrd bs
    | 5 => .ok .rld bs
    | _ => .ok (.nopEd op) bs

/-- The ED page (R108, R119). -/
def decodeEd (op : Byte) (bs : List Byte) : Decoded :=
  match op.toNat with
  | 0xA0 => .ok .ldi bs
  | 0xA1 => .ok .cpi bs
  | 0xA2 => .ok .ini bs
  | 0xA3 => .ok .outi bs
  | 0xA8 => .ok .ldd bs
  | 0xA9 => .ok .cpd bs
  | 0xAA => .ok .ind bs
  | 0xAB => .ok .outd bs
  | 0xB0 => .ok .ldir bs
  | 0xB1 => .ok .cpir bs
  | 0xB2 => .ok .inir bs
  | 0xB3 => .ok .otir bs
  | 0xB8 => .ok .lddr bs
  | 0xB9 => .ok .cpdr bs
  | 0xBA => .ok .indr bs
  | 0xBB => .ok .otdr bs
  | _ => if opX op = 1 then decodeEdOne op bs else .ok (.nopEd op) bs

/-- The DD or FD page for an opcode of HL_AFFECTED (R105, R120) with the substitutions of R103 and R104;
`none` for every opcode that the prefix does not change. -/
def decodeIndexed (x : Index) (op : Byte) (bs : List Byte) : Option Decoded :=
  let y := opY op
  match op.toNat with
  | 0x09 | 0x19 | 0x29 | 0x39 => some (.ok (x.sel Instr.addIxP Instr.addIyP (XPair.ofCode (opP op))) bs)
  | 0x21 => some (takeWord bs (x.sel .ldIxNn .ldIyNn))
  | 0x22 => some (takeWord bs (x.sel .ldAtNnIx .ldAtNnIy))
  | 0x23 => some (.ok (x.sel .incIx .incIy) bs)
  | 0x24 => some (.ok (x.sel .incIxh .incIyh) bs)
  | 0x25 => some (.ok (x.sel .decIxh .decIyh) bs)
  | 0x26 => some (takeByte bs (x.sel .ldIxhN .ldIyhN))
  | 0x2A => some (takeWord bs (x.sel .ldIxAtNn .ldIyAtNn))
  | 0x2B => some (.ok (x.sel .decIx .decIy) bs)
  | 0x2C => some (.ok (x.sel .incIxl .incIyl) bs)
  | 0x2D => some (.ok (x.sel .decIxl .decIyl) bs)
  | 0x2E => some (takeByte bs (x.sel .ldIxlN .ldIylN))
  | 0x34 => some (takeByte bs (x.sel .incAtIx .incAtIy))
  | 0x35 => some (takeByte bs (x.sel .decAtIx .decAtIy))
  | 0x36 => some (takeTwo bs (x.sel .ldAtIxN .ldAtIyN))
  | 0xE1 => some (.ok (x.sel .popIx .popIy) bs)
  | 0xE3 => some (.ok (x.sel .exAtSpIx .exAtSpIy) bs)
  | 0xE5 => some (.ok (x.sel .pushIx .pushIy) bs)
  | 0xE9 => some (.ok (x.sel .jpIx .jpIy) bs)
  | 0xF9 => some (.ok (x.sel .ldSpIx .ldSpIy) bs)
  | _ =>
    match opX op with
    | 1 =>
      match XReg8.ofCode y, XReg8.ofCode (opZ op), Reg8.ofCode y, Reg8.ofCode (opZ op) with
      | some r, some s, _, _ =>
        if r.isHalf || s.isHalf then some (.ok (x.sel Instr.ldRSIx Instr.ldRSIy r s) bs) else none
      | _, none, some r, _ => some (takeByte bs (x.sel (Instr.ldRAtIx r) (Instr.ldRAtIy r)))
      | none, _, _, some s => some (takeByte bs (fun d => x.sel (Instr.ldAtIxS d s) (Instr.ldAtIyS d s)))
      | _, _, _, _ => none   -- 0x76, HALT
    | 2 =>
      match opZ op with
      | 4 => some (.ok (x.sel (aluIxHalf y .hi) (aluIyHalf y .hi)) bs)
      | 5 => some (.ok (x.sel (aluIxHalf y .lo) (aluIyHalf y .lo)) bs)
      | 6 => some (takeByte bs (x.sel (aluAtIx y) (aluAtIy y)))
      | _ => none
    | _ => none

/-- The DDCB or FDCB page (R107): the displacement d has been read, then op. -/
def decodeXCb (x : Index) (d op : Byte) (bs : List Byte) : Decoded :=
  let y := opY op
  let b := BitVec.ofNat 3 y
  match opX op, Reg8.ofCode (opZ op) with
  | 0, some r => .ok (x.sel (rotAtIxR y d r) (rotAtIyR y d r)) bs
  | 0, none => .ok (x.sel (rotAtIx y d) (rotAtIy y d)) bs
  | 1, _ => .ok (x.sel Instr.bitAtIx Instr.bitAtIy b d (BitVec.ofNat 3 (opZ op))) bs
  | 2, some r => .ok (x.sel Instr.resAtIxR Instr.resAtIyR b d r) bs
  | 2, none => .ok (x.sel Instr.resAtIx Instr.resAtIy b d) bs
  | _, some r => .ok (x.sel Instr.setAtIxR Instr.setAtIyR b d r) bs
  | _, none => .ok (x.sel Instr.setAtIx Instr.setAtIy b d) bs

/-- What follows a DD or FD byte (R105, R106, R107, R111): nothing (the prefix's own row), another prefix
that ends a prefix-chain step and is left unread, 0xCB, an opcode of HL_AFFECTED, or an opcode before which
the prefix is ignored. -/
def decodeAfterIndex (x : Index) : List Byte → Decoded
  | [] => .ok (x.sel .prefixDd .prefixFd) []
  | op :: bs =>
    match op.toNat with
    | 0xDD => .ok (x.sel .ddThenDd .fdThenDd) (op :: bs)
    | 0xFD => .ok (x.sel .ddThenFd .fdThenFd) (op :: bs)
    | 0xED => .ok (x.sel .ddThenEd .fdThenEd) (op :: bs)
    | 0xCB =>
      match bs with
      | [] => .ok (x.sel .prefixDdCb .prefixFdCb) []
      | d :: op3 :: rest => decodeXCb x d op3 rest
      | _ => .error .truncated
    | _ =>
      match decodeIndexed x op bs with
      | some r => r
      | none =>
        match decodeBase op bs with
        | .ok i rest => .ok (x.sel (Instr.ddIgnored i) (Instr.fdIgnored i)) rest
        | .error e => .error e

/-- The decode procedure (R111) on a list of bytes. -/
def decode : List Byte → Decoded
  | [] => .error .truncated
  | op :: bs =>
    match op.toNat with
    | 0xCB =>
      match bs with
      | [] => .ok .prefixCb []
      | op2 :: rest => decodeCb op2 rest
    | 0xED =>
      match bs with
      | [] => .ok .prefixEd []
      | op2 :: rest => decodeEd op2 rest
    | 0xDD => decodeAfterIndex .ix bs
    | 0xFD => decodeAfterIndex .iy bs
    | _ => decodeBase op bs

/-- The first `n` bytes of an instruction whose bits are `w`, bit 0 the least significant bit of the first
byte. -/
def tableBytes (n w : Nat) : List Byte := (List.range n).map (fun k => BitVec.ofNat 8 (w / 2 ^ (8 * k)))

/-- The instruction the decoder reads from the table's bits: from the row's own bytes where they are a whole
row, else with every bit above them 0 (log 16). -/
def decodeTableWord (nbits w : Nat) : Option Instr :=
  let own := tableBytes ((nbits + 7) / 8) w
  match decode own with
  | .ok i _ => some i
  | .error _ =>
    match decode (own ++ [0, 0, 0, 0]) with
    | .ok i _ => some i
    | .error _ => none

/-! ## The encoder -/

/-- The bytes of an instruction: those fetched as M1 cycles, then its operand bytes (R80, R112), and whether
the last two are a 16-bit immediate. -/
structure Code where
  m1 : List Byte
  operand : List Byte
  imm16 : Bool
  deriving DecidableEq, Repr

/-- R93. -/
def Reg8.code : Reg8 → Byte
  | .b => 0
  | .c => 1
  | .d => 2
  | .e => 3
  | .h => 4
  | .l => 5
  | .a => 7

/-- R93, R103. -/
def XReg8.code : XReg8 → Byte
  | .b => 0
  | .c => 1
  | .d => 2
  | .e => 3
  | .xh => 4
  | .xl => 5
  | .a => 7

/-- The h bit of the half forms: 0 is the high half, 1 the low half. -/
def Half.code : Half → Byte
  | .hi => 0
  | .lo => 1

/-- R94. -/
def Pair.code : Pair → Byte
  | .bc => 0
  | .de => 1
  | .hl => 2
  | .sp => 3

/-- R94, R103. -/
def XPair.code : XPair → Byte
  | .bc => 0
  | .de => 1
  | .xx => 2
  | .sp => 3

/-- R95. -/
def StackPair.code : StackPair → Byte
  | .bc => 0
  | .de => 1
  | .hl => 2
  | .af => 3

/-- R145, R147. -/
def PtrPair.code : PtrPair → Byte
  | .bc => 0
  | .de => 1

/-- R96. -/
def Cond.code : Cond → Byte
  | .nz => 0
  | .z => 1
  | .nc => 2
  | .c => 3
  | .po => 4
  | .pe => 5
  | .p => 6
  | .m => 7

/-- R96. -/
def JrCond.code : JrCond → Byte
  | .nz => 0
  | .z => 1
  | .nc => 2
  | .c => 3

/-- A 3-bit field as a byte. -/
def bits3 (v : BitVec 3) : Byte := v.setWidth 8

/-- Opcode bytes alone. -/
def Code.plain (m1 : List Byte) : Code := { m1 := m1, operand := [], imm16 := false }
/-- Opcode bytes, then operand bytes. -/
def Code.bytes (m1 operand : List Byte) : Code := { m1 := m1, operand := operand, imm16 := false }
/-- Opcode bytes, then nn with its low byte first (R100). -/
def Code.word (m1 : List Byte) (nn : Word) : Code := { m1 := m1, operand := [loByte nn, hiByte nn], imm16 := true }

/-- The bytes of a base-page instruction (R118); an instruction of another page has none here. -/
def Instr.codeBase : Instr → Code
  | .nop => Code.plain [0x00]
  | .ldPNn p nn => Code.word [0x01 ||| p.code <<< 4] nn
  | .ldAtPpA p => Code.plain [0x02 ||| p.code <<< 4]
  | .incP p => Code.plain [0x03 ||| p.code <<< 4]
  | .incR r => Code.plain [0x04 ||| r.code <<< 3]
  | .incAtHl => Code.plain [0x34]
  | .decR r => Code.plain [0x05 ||| r.code <<< 3]
  | .decAtHl => Code.plain [0x35]
  | .ldRN r n => Code.bytes [0x06 ||| r.code <<< 3] [n]
  | .ldAtHlN n => Code.bytes [0x36] [n]
  | .rlca => Code.plain [0x07]
  | .exAfAf => Code.plain [0x08]
  | .addHlP p => Code.plain [0x09 ||| p.code <<< 4]
  | .ldAAtPp p => Code.plain [0x0A ||| p.code <<< 4]
  | .decP p => Code.plain [0x0B ||| p.code <<< 4]
  | .rrca => Code.plain [0x0F]
  | .djnz e => Code.bytes [0x10] [e]
  | .rla => Code.plain [0x17]
  | .jr e => Code.bytes [0x18] [e]
  | .rra => Code.plain [0x1F]
  | .jrC cc e => Code.bytes [0x20 ||| cc.code <<< 3] [e]
  | .ldAtNnHl nn => Code.word [0x22] nn
  | .daa => Code.plain [0x27]
  | .ldHlAtNn nn => Code.word [0x2A] nn
  | .cpl => Code.plain [0x2F]
  | .ldAtNnA nn => Code.word [0x32] nn
  | .scf => Code.plain [0x37]
  | .ldAAtNn nn => Code.word [0x3A] nn
  | .ccf => Code.plain [0x3F]
  | .ldRS r r2 => Code.plain [0x40 ||| r.code <<< 3 ||| r2.code]
  | .ldRAtHl r => Code.plain [0x46 ||| r.code <<< 3]
  | .ldAtHlS r => Code.plain [0x70 ||| r.code]
  | .halt => Code.plain [0x76]
  | .addS r => Code.plain [0x80 ||| r.code]
  | .addAtHl => Code.plain [0x86]
  | .addN n => Code.bytes [0xC6] [n]
  | .adcS r => Code.plain [0x88 ||| r.code]
  | .adcAtHl => Code.plain [0x8E]
  | .adcN n => Code.bytes [0xCE] [n]
  | .subS r => Code.plain [0x90 ||| r.code]
  | .subAtHl => Code.plain [0x96]
  | .subN n => Code.bytes [0xD6] [n]
  | .sbcS r => Code.plain [0x98 ||| r.code]
  | .sbcAtHl => Code.plain [0x9E]
  | .sbcN n => Code.bytes [0xDE] [n]
  | .andS r => Code.plain [0xA0 ||| r.code]
  | .andAtHl => Code.plain [0xA6]
  | .andN n => Code.bytes [0xE6] [n]
  | .xorS r => Code.plain [0xA8 ||| r.code]
  | .xorAtHl => Code.plain [0xAE]
  | .xorN n => Code.bytes [0xEE] [n]
  | .orS r => Code.plain [0xB0 ||| r.code]
  | .orAtHl => Code.plain [0xB6]
  | .orN n => Code.bytes [0xF6] [n]
  | .cpS r => Code.plain [0xB8 ||| r.code]
  | .cpAtHl => Code.plain [0xBE]
  | .cpN n => Code.bytes [0xFE] [n]
  | .retC cc => Code.plain [0xC0 ||| cc.code <<< 3]
  | .popQ q => Code.plain [0xC1 ||| q.code <<< 4]
  | .jpC cc nn => Code.word [0xC2 ||| cc.code <<< 3] nn
  | .jp nn => Code.word [0xC3] nn
  | .callC cc nn => Code.word [0xC4 ||| cc.code <<< 3] nn
  | .pushQ q => Code.plain [0xC5 ||| q.code <<< 4]
  | .rst k => Code.plain [0xC7 ||| bits3 k <<< 3]
  | .ret => Code.plain [0xC9]
  | .prefixCb => Code.plain [0xCB]
  | .call nn => Code.word [0xCD] nn
  | .outNA n => Code.bytes [0xD3] [n]
  | .exx => Code.plain [0xD9]
  | .inAN n => Code.bytes [0xDB] [n]
  | .prefixDd => Code.plain [0xDD]
  | .exAtSpHl => Code.plain [0xE3]
  | .jpHl => Code.plain [0xE9]
  | .exDeHl => Code.plain [0xEB]
  | .prefixEd => Code.plain [0xED]
  | .di => Code.plain [0xF3]
  | .ldSpHl => Code.plain [0xF9]
  | .ei => Code.plain [0xFB]
  | .prefixFd => Code.plain [0xFD]
  | _ => Code.plain []

/-- The bytes of an instruction, from spec/30_encoding.md R92 to R109 and the opcode table's encodings. -/
def Instr.code : Instr → Code
  | .rlcR r => Code.plain [0xCB, 0x00 ||| r.code]
  | .rlcAtHl => Code.plain [0xCB, 0x06]
  | .rrcR r => Code.plain [0xCB, 0x08 ||| r.code]
  | .rrcAtHl => Code.plain [0xCB, 0x0E]
  | .rlR r => Code.plain [0xCB, 0x10 ||| r.code]
  | .rlAtHl => Code.plain [0xCB, 0x16]
  | .rrR r => Code.plain [0xCB, 0x18 ||| r.code]
  | .rrAtHl => Code.plain [0xCB, 0x1E]
  | .slaR r => Code.plain [0xCB, 0x20 ||| r.code]
  | .slaAtHl => Code.plain [0xCB, 0x26]
  | .sraR r => Code.plain [0xCB, 0x28 ||| r.code]
  | .sraAtHl => Code.plain [0xCB, 0x2E]
  | .sllR r => Code.plain [0xCB, 0x30 ||| r.code]
  | .sllAtHl => Code.plain [0xCB, 0x36]
  | .srlR r => Code.plain [0xCB, 0x38 ||| r.code]
  | .srlAtHl => Code.plain [0xCB, 0x3E]
  | .bitR b r => Code.plain [0xCB, 0x40 ||| bits3 b <<< 3 ||| r.code]
  | .bitAtHl b => Code.plain [0xCB, 0x46 ||| bits3 b <<< 3]
  | .resR b r => Code.plain [0xCB, 0x80 ||| bits3 b <<< 3 ||| r.code]
  | .resAtHl b => Code.plain [0xCB, 0x86 ||| bits3 b <<< 3]
  | .setR b r => Code.plain [0xCB, 0xC0 ||| bits3 b <<< 3 ||| r.code]
  | .setAtHl b => Code.plain [0xCB, 0xC6 ||| bits3 b <<< 3]
  | .inRC r => Code.plain [0xED, 0x40 ||| r.code <<< 3]
  | .inC => Code.plain [0xED, 0x70]
  | .outCR r => Code.plain [0xED, 0x41 ||| r.code <<< 3]
  | .outC0 => Code.plain [0xED, 0x71]
  | .sbcHlP p => Code.plain [0xED, 0x42 ||| p.code <<< 4]
  | .adcHlP p => Code.plain [0xED, 0x4A ||| p.code <<< 4]
  | .ldAtNnP p nn => Code.word [0xED, 0x43 ||| p.code <<< 4] nn
  | .ldPAtNn p nn => Code.word [0xED, 0x4B ||| p.code <<< 4] nn
  | .neg x => Code.plain [0xED, 0x44 ||| bits3 x <<< 3]
  | .retn x => Code.plain [0xED, 0x45 ||| bits3 x <<< 3]
  | .reti => Code.plain [0xED, 0x4D]
  | .im0 x1 x0 => Code.plain [0xED, 0x46 ||| bitAt x1 5 ||| bitAt x0 3]
  | .im1 x1 => Code.plain [0xED, 0x56 ||| bitAt x1 5]
  | .im2 x1 => Code.plain [0xED, 0x5E ||| bitAt x1 5]
  | .ldIA => Code.plain [0xED, 0x47]
  | .ldRA => Code.plain [0xED, 0x4F]
  | .ldAI => Code.plain [0xED, 0x57]
  | .ldAR => Code.plain [0xED, 0x5F]
  | .rrd => Code.plain [0xED, 0x67]
  | .rld => Code.plain [0xED, 0x6F]
  | .ldi => Code.plain [0xED, 0xA0]
  | .cpi => Code.plain [0xED, 0xA1]
  | .ini => Code.plain [0xED, 0xA2]
  | .outi => Code.plain [0xED, 0xA3]
  | .ldd => Code.plain [0xED, 0xA8]
  | .cpd => Code.plain [0xED, 0xA9]
  | .ind => Code.plain [0xED, 0xAA]
  | .outd => Code.plain [0xED, 0xAB]
  | .ldir => Code.plain [0xED, 0xB0]
  | .cpir => Code.plain [0xED, 0xB1]
  | .inir => Code.plain [0xED, 0xB2]
  | .otir => Code.plain [0xED, 0xB3]
  | .lddr => Code.plain [0xED, 0xB8]
  | .cpdr => Code.plain [0xED, 0xB9]
  | .indr => Code.plain [0xED, 0xBA]
  | .otdr => Code.plain [0xED, 0xBB]
  | .nopEd op => Code.plain [0xED, op]
  | .addIxP p => Code.plain [0xDD, 0x09 ||| p.code <<< 4]
  | .ldIxNn nn => Code.word [0xDD, 0x21] nn
  | .ldAtNnIx nn => Code.word [0xDD, 0x22] nn
  | .incIx => Code.plain [0xDD, 0x23]
  | .incIxh => Code.plain [0xDD, 0x24]
  | .decIxh => Code.plain [0xDD, 0x25]
  | .ldIxhN n => Code.bytes [0xDD, 0x26] [n]
  | .ldIxAtNn nn => Code.word [0xDD, 0x2A] nn
  | .decIx => Code.plain [0xDD, 0x2B]
  | .incIxl => Code.plain [0xDD, 0x2C]
  | .decIxl => Code.plain [0xDD, 0x2D]
  | .ldIxlN n => Code.bytes [0xDD, 0x2E] [n]
  | .incAtIx d => Code.bytes [0xDD, 0x34] [d]
  | .decAtIx d => Code.bytes [0xDD, 0x35] [d]
  | .ldAtIxN d n => Code.bytes [0xDD, 0x36] [d, n]
  | .ldRSIx r r2 => Code.plain [0xDD, 0x40 ||| r.code <<< 3 ||| r2.code]
  | .ldRAtIx r d => Code.bytes [0xDD, 0x46 ||| r.code <<< 3] [d]
  | .ldAtIxS d r => Code.bytes [0xDD, 0x70 ||| r.code] [d]
  | .addIxHalf h => Code.plain [0xDD, 0x84 ||| h.code]
  | .addAtIx d => Code.bytes [0xDD, 0x86] [d]
  | .adcIxHalf h => Code.plain [0xDD, 0x8C ||| h.code]
  | .adcAtIx d => Code.bytes [0xDD, 0x8E] [d]
  | .subIxHalf h => Code.plain [0xDD, 0x94 ||| h.code]
  | .subAtIx d => Code.bytes [0xDD, 0x96] [d]
  | .sbcIxHalf h => Code.plain [0xDD, 0x9C ||| h.code]
  | .sbcAtIx d => Code.bytes [0xDD, 0x9E] [d]
  | .andIxHalf h => Code.plain [0xDD, 0xA4 ||| h.code]
  | .andAtIx d => Code.bytes [0xDD, 0xA6] [d]
  | .xorIxHalf h => Code.plain [0xDD, 0xAC ||| h.code]
  | .xorAtIx d => Code.bytes [0xDD, 0xAE] [d]
  | .orIxHalf h => Code.plain [0xDD, 0xB4 ||| h.code]
  | .orAtIx d => Code.bytes [0xDD, 0xB6] [d]
  | .cpIxHalf h => Code.plain [0xDD, 0xBC ||| h.code]
  | .cpAtIx d => Code.bytes [0xDD, 0xBE] [d]
  | .prefixDdCb => Code.plain [0xDD, 0xCB]
  | .popIx => Code.plain [0xDD, 0xE1]
  | .exAtSpIx => Code.plain [0xDD, 0xE3]
  | .pushIx => Code.plain [0xDD, 0xE5]
  | .jpIx => Code.plain [0xDD, 0xE9]
  | .ldSpIx => Code.plain [0xDD, 0xF9]
  | .ddThenDd => Code.plain [0xDD]
  | .ddThenFd => Code.plain [0xDD]
  | .ddThenEd => Code.plain [0xDD]
  | .ddIgnored base => { Instr.codeBase base with m1 := 0xDD :: (Instr.codeBase base).m1 }
  | .addIyP p => Code.plain [0xFD, 0x09 ||| p.code <<< 4]
  | .ldIyNn nn => Code.word [0xFD, 0x21] nn
  | .ldAtNnIy nn => Code.word [0xFD, 0x22] nn
  | .incIy => Code.plain [0xFD, 0x23]
  | .incIyh => Code.plain [0xFD, 0x24]
  | .decIyh => Code.plain [0xFD, 0x25]
  | .ldIyhN n => Code.bytes [0xFD, 0x26] [n]
  | .ldIyAtNn nn => Code.word [0xFD, 0x2A] nn
  | .decIy => Code.plain [0xFD, 0x2B]
  | .incIyl => Code.plain [0xFD, 0x2C]
  | .decIyl => Code.plain [0xFD, 0x2D]
  | .ldIylN n => Code.bytes [0xFD, 0x2E] [n]
  | .incAtIy d => Code.bytes [0xFD, 0x34] [d]
  | .decAtIy d => Code.bytes [0xFD, 0x35] [d]
  | .ldAtIyN d n => Code.bytes [0xFD, 0x36] [d, n]
  | .ldRSIy r r2 => Code.plain [0xFD, 0x40 ||| r.code <<< 3 ||| r2.code]
  | .ldRAtIy r d => Code.bytes [0xFD, 0x46 ||| r.code <<< 3] [d]
  | .ldAtIyS d r => Code.bytes [0xFD, 0x70 ||| r.code] [d]
  | .addIyHalf h => Code.plain [0xFD, 0x84 ||| h.code]
  | .addAtIy d => Code.bytes [0xFD, 0x86] [d]
  | .adcIyHalf h => Code.plain [0xFD, 0x8C ||| h.code]
  | .adcAtIy d => Code.bytes [0xFD, 0x8E] [d]
  | .subIyHalf h => Code.plain [0xFD, 0x94 ||| h.code]
  | .subAtIy d => Code.bytes [0xFD, 0x96] [d]
  | .sbcIyHalf h => Code.plain [0xFD, 0x9C ||| h.code]
  | .sbcAtIy d => Code.bytes [0xFD, 0x9E] [d]
  | .andIyHalf h => Code.plain [0xFD, 0xA4 ||| h.code]
  | .andAtIy d => Code.bytes [0xFD, 0xA6] [d]
  | .xorIyHalf h => Code.plain [0xFD, 0xAC ||| h.code]
  | .xorAtIy d => Code.bytes [0xFD, 0xAE] [d]
  | .orIyHalf h => Code.plain [0xFD, 0xB4 ||| h.code]
  | .orAtIy d => Code.bytes [0xFD, 0xB6] [d]
  | .cpIyHalf h => Code.plain [0xFD, 0xBC ||| h.code]
  | .cpAtIy d => Code.bytes [0xFD, 0xBE] [d]
  | .prefixFdCb => Code.plain [0xFD, 0xCB]
  | .popIy => Code.plain [0xFD, 0xE1]
  | .exAtSpIy => Code.plain [0xFD, 0xE3]
  | .pushIy => Code.plain [0xFD, 0xE5]
  | .jpIy => Code.plain [0xFD, 0xE9]
  | .ldSpIy => Code.plain [0xFD, 0xF9]
  | .fdThenDd => Code.plain [0xFD]
  | .fdThenFd => Code.plain [0xFD]
  | .fdThenEd => Code.plain [0xFD]
  | .fdIgnored base => { Instr.codeBase base with m1 := 0xFD :: (Instr.codeBase base).m1 }
  | .rlcAtIx d => Code.bytes [0xDD, 0xCB] [d, 0x06]
  | .rlcAtIxR d r => Code.bytes [0xDD, 0xCB] [d, 0x00 ||| r.code]
  | .rrcAtIx d => Code.bytes [0xDD, 0xCB] [d, 0x0E]
  | .rrcAtIxR d r => Code.bytes [0xDD, 0xCB] [d, 0x08 ||| r.code]
  | .rlAtIx d => Code.bytes [0xDD, 0xCB] [d, 0x16]
  | .rlAtIxR d r => Code.bytes [0xDD, 0xCB] [d, 0x10 ||| r.code]
  | .rrAtIx d => Code.bytes [0xDD, 0xCB] [d, 0x1E]
  | .rrAtIxR d r => Code.bytes [0xDD, 0xCB] [d, 0x18 ||| r.code]
  | .slaAtIx d => Code.bytes [0xDD, 0xCB] [d, 0x26]
  | .slaAtIxR d r => Code.bytes [0xDD, 0xCB] [d, 0x20 ||| r.code]
  | .sraAtIx d => Code.bytes [0xDD, 0xCB] [d, 0x2E]
  | .sraAtIxR d r => Code.bytes [0xDD, 0xCB] [d, 0x28 ||| r.code]
  | .sllAtIx d => Code.bytes [0xDD, 0xCB] [d, 0x36]
  | .sllAtIxR d r => Code.bytes [0xDD, 0xCB] [d, 0x30 ||| r.code]
  | .srlAtIx d => Code.bytes [0xDD, 0xCB] [d, 0x3E]
  | .srlAtIxR d r => Code.bytes [0xDD, 0xCB] [d, 0x38 ||| r.code]
  | .bitAtIx b d z => Code.bytes [0xDD, 0xCB] [d, 0x40 ||| bits3 b <<< 3 ||| bits3 z]
  | .resAtIx b d => Code.bytes [0xDD, 0xCB] [d, 0x86 ||| bits3 b <<< 3]
  | .resAtIxR b d r => Code.bytes [0xDD, 0xCB] [d, 0x80 ||| bits3 b <<< 3 ||| r.code]
  | .setAtIx b d => Code.bytes [0xDD, 0xCB] [d, 0xC6 ||| bits3 b <<< 3]
  | .setAtIxR b d r => Code.bytes [0xDD, 0xCB] [d, 0xC0 ||| bits3 b <<< 3 ||| r.code]
  | .rlcAtIy d => Code.bytes [0xFD, 0xCB] [d, 0x06]
  | .rlcAtIyR d r => Code.bytes [0xFD, 0xCB] [d, 0x00 ||| r.code]
  | .rrcAtIy d => Code.bytes [0xFD, 0xCB] [d, 0x0E]
  | .rrcAtIyR d r => Code.bytes [0xFD, 0xCB] [d, 0x08 ||| r.code]
  | .rlAtIy d => Code.bytes [0xFD, 0xCB] [d, 0x16]
  | .rlAtIyR d r => Code.bytes [0xFD, 0xCB] [d, 0x10 ||| r.code]
  | .rrAtIy d => Code.bytes [0xFD, 0xCB] [d, 0x1E]
  | .rrAtIyR d r => Code.bytes [0xFD, 0xCB] [d, 0x18 ||| r.code]
  | .slaAtIy d => Code.bytes [0xFD, 0xCB] [d, 0x26]
  | .slaAtIyR d r => Code.bytes [0xFD, 0xCB] [d, 0x20 ||| r.code]
  | .sraAtIy d => Code.bytes [0xFD, 0xCB] [d, 0x2E]
  | .sraAtIyR d r => Code.bytes [0xFD, 0xCB] [d, 0x28 ||| r.code]
  | .sllAtIy d => Code.bytes [0xFD, 0xCB] [d, 0x36]
  | .sllAtIyR d r => Code.bytes [0xFD, 0xCB] [d, 0x30 ||| r.code]
  | .srlAtIy d => Code.bytes [0xFD, 0xCB] [d, 0x3E]
  | .srlAtIyR d r => Code.bytes [0xFD, 0xCB] [d, 0x38 ||| r.code]
  | .bitAtIy b d z => Code.bytes [0xFD, 0xCB] [d, 0x40 ||| bits3 b <<< 3 ||| bits3 z]
  | .resAtIy b d => Code.bytes [0xFD, 0xCB] [d, 0x86 ||| bits3 b <<< 3]
  | .resAtIyR b d r => Code.bytes [0xFD, 0xCB] [d, 0x80 ||| bits3 b <<< 3 ||| r.code]
  | .setAtIy b d => Code.bytes [0xFD, 0xCB] [d, 0xC6 ||| bits3 b <<< 3]
  | .setAtIyR b d r => Code.bytes [0xFD, 0xCB] [d, 0xC0 ||| bits3 b <<< 3 ||| r.code]
  | i => i.codeBase

/-- The bytes of an instruction, in memory order. A prefix-chain step (R106) is the prefix byte alone. -/
def encode (i : Instr) : List Byte := i.code.m1 ++ i.code.operand

/-- The byte that a prefix-chain step sees after it without fetching it (R106, R111). -/
def Instr.lookahead : Instr → List Byte
  | .ddThenDd | .fdThenDd => [0xDD]
  | .ddThenFd | .fdThenFd => [0xFD]
  | .ddThenEd | .fdThenEd => [0xED]
  | _ => []

/-- The rows of the opcode table that are a page prefix alone (R102, R107, R108, R109): in a longer list of
bytes they are the beginning of another row's instruction. -/
def Instr.isPrefixRow : Instr → Bool
  | .prefixCb | .prefixDd | .prefixEd | .prefixFd | .prefixDdCb | .prefixFdCb => true
  | _ => false

end Sys2Proof
end

