-- ==== Sys2Proof/Config.lean ====
section
/-! DEFINITION. What the platform fixes for a run (the OPEN parameters of spec/00_scope.md R5) as plain
data, the default platform, what an unlisted memory byte reads as, and the one free value of the model. -/

namespace Sys2Proof

/-- A channel of a CTC chip, 0 to 3 (61_ctc.md R450). -/
inductive Chan where
  | ch0 | ch1 | ch2 | ch3
  deriving DecidableEq, Repr

/-- A port of a PIO chip: A is port 0, B is port 1 (62_pio.md R490). -/
inductive PortId where
  | a | b
  deriving DecidableEq, Repr

/-- What a port address selects (20_memory.md R66, 61_ctc.md R452, 62_pio.md R492): a CTC channel, a PIO register,
or another device of the platform, whose behaviour the spec does not give. The number is the chip's index among the
platform's CTC chips or PIO chips. -/
inductive PortTarget where
  | ctc (chip : Nat) (chan : Chan)
  | pioData (chip : Nat) (port : PortId)
  | pioControl (chip : Nat) (port : PortId)
  | device
  deriving DecidableEq, Repr

/-- One line of PORT_MAP: every port address p with `p &&& mask = value` selects `target`. The first
matching line decides. -/
structure PortRule where
  mask : Word
  value : Word
  target : PortTarget
  deriving DecidableEq, Repr

/-- What a memory address is (20_memory.md R69): RAM; ROM, where a write has no effect; a device that the
model does not have, where a read is a draw. -/
inductive MemKind where
  | ram | rom | device
  deriving DecidableEq, Repr

/-- One line of MEM_MAP: the addresses from `first` to `last`. The first line that holds an address decides;
an address in no line is RAM, the default of R69. -/
structure MemRange where
  first : Word
  last : Word
  kind : MemKind
  deriving DecidableEq, Repr

/-- An entry of INT_SOURCES: a CTC chip or a PIO chip of the platform, by index (60_exceptions.md R402). -/
inductive SourceId where
  | ctc (chip : Nat)
  | pio (chip : Nat)
  deriving DecidableEq, Repr

/-- CTC_CHAIN of one chip: the channel that the zero-count output of channels 0, 1 and 2 pulses.
Channel 3 has no chained output (61_ctc.md R464). -/
structure Chain where
  from0 : Option Chan
  from1 : Option Chan
  from2 : Option Chan
  deriving DecidableEq, Repr

/-- No channel is chained, the default of R464. -/
def Chain.unwired : Chain := { from0 := none, from1 := none, from2 := none }

/-- The kinds of two-byte access that a rule performs (20_memory.md R71). WORD_NOTIFY is a list of them:
the kinds that are word-helper accesses, whose high byte does not notify (R73). -/
inductive WordAccess where
  | imm16      -- the two operand fetches of nn
  | load       -- a 16-bit load from (nn)
  | store      -- a 16-bit store to (nn)
  | push       -- Push16: PUSH, CALL, RST and interrupt acceptance
  | pop        -- Pop16: POP, RET, RETI and RETN
  | exRead     -- the two reads of EX (SP),HL
  | exWrite    -- the two writes of EX (SP),HL
  | tableRead  -- the mode 2 vector table entry
  deriving DecidableEq, Repr

/-- A row of TSTATE_TABLE that differs from the default (00_scope.md R5): an instruction of the row's form, its
T-states, and, for a form with two counts, the count where its condition fails or it does not repeat. A form with
one count has no use for `other`. -/
structure TStateRow where
  form : Instr
  taken : Nat
  other : Nat
  deriving DecidableEq, Repr

/-- TSTATE_TABLE (R5, 70_reset_and_hazards.md R539): the rows that differ from the default, which stands in each
instruction's meaning as its rule gives it, and the T-states of the halted no-op (60_exceptions.md R412). -/
structure TStateTable where
  rows : List TStateRow
  halted : Nat
  deriving DecidableEq, Repr

/-- ACCEPT_TSTATES (R5, 60_exceptions.md R411): the T-states of an acceptance; in mode 0 those of the executed
instruction come on top. -/
structure AcceptTStates where
  nmi : Nat
  im0 : Nat
  im1 : Nat
  im2 : Nat
  deriving DecidableEq, Repr

/-- The platform parameters of R5 that the model keeps as data. No step of the machine writes them. -/
structure Platform where
  /-- MEM_MAP (20_memory.md R69). -/
  memMap : List MemRange
  /-- PORT_MAP (R66). -/
  portMap : List PortRule
  /-- INT_SOURCES, index 0 the highest priority (60_exceptions.md R402). -/
  intSources : List SourceId
  /-- CTC_CHAIN, one entry per CTC chip; a chip without an entry is unwired (61_ctc.md R464). -/
  ctcChain : List Chain
  /-- TSTATES_WRAP, a positive integer (60_exceptions.md R414). -/
  tstatesWrap : Nat
  /-- EXIT_PC, when the launch names one (60_exceptions.md R422). -/
  exitPc : Option Word
  /-- WORD_NOTIFY: which kinds of two-byte access are word-helper accesses (20_memory.md R73). -/
  wordHelpers : List WordAccess
  /-- IO_UNMAPPED (R66): the value that a port no device answers reads; none for a draw. -/
  ioUnmapped : Option Byte
  /-- TSTATE_TABLE (R539). -/
  tstates : TStateTable
  /-- ACCEPT_TSTATES (R411). -/
  accept : AcceptTStates
  deriving DecidableEq, Repr

/-- The default platform: the port map and source order that 92_eei_decisions.md D5 and D16 give as the
defaults of the test vectors, flat RAM (R69), no chain (R464), no EXIT_PC, a draw for IO_UNMAPPED, the default
TSTATE_TABLE and ACCEPT_TSTATES (R5, R411, R412). DESIGN CHOICE (unsafe where a statement
would rest on it; log 5, 6, 9): the wrap threshold and the empty list of word helpers are OPEN in R5. -/
def Platform.standard : Platform where
  memMap := []
  portMap := [
    { mask := 0x00FF, value := 0x0000, target := .ctc 0 .ch0 },
    { mask := 0x00FF, value := 0x0001, target := .ctc 0 .ch1 },
    { mask := 0x00FF, value := 0x0002, target := .ctc 0 .ch2 },
    { mask := 0x00FF, value := 0x0003, target := .ctc 0 .ch3 },
    { mask := 0x00FF, value := 0x0010, target := .pioData 0 .a },
    { mask := 0x00FF, value := 0x0011, target := .pioData 0 .b },
    { mask := 0x00FF, value := 0x0012, target := .pioControl 0 .a },
    { mask := 0x00FF, value := 0x0013, target := .pioControl 0 .b } ]
  intSources := [.ctc 0, .pio 0]
  ctcChain := []
  tstatesWrap := 4294967296
  exitPc := none
  wordHelpers := []
  ioUnmapped := none
  tstates := { rows := [], halted := 4 }
  accept := { nmi := 11, im0 := 2, im1 := 13, im2 := 19 }

/-- What a memory byte that nothing has written reads as. DESIGN CHOICE (unsafe, log 2): 20_memory.md R69
gives a power-on draw. -/
def Config.unlistedByte : Byte := 0x00

/-- The free values of the machine: the k-th `draw()` (00_scope.md R8) of a read that no rule gives a value:
a port no device answers, where IO_UNMAPPED names no value (R66), a port of a device other than the CTC and the PIO
(R66), a PIO control register (62_pio.md R492), a device range of memory (R69). It has no body, so no proof can see
a value of it (safe, log 4). -/
opaque Config.freeByte : Nat → BitVec 8

end Sys2Proof
end

