-- ==== Sys2Proof/Machine/State.lean ====
section
/-! DEFINITION. The state of the machine as plain data: the CPU record of spec/10_state.md R20, memory, the
CTC and PIO chips (61_ctc.md R451, 62_pio.md R491), the platform parameters, the observation trace, the
host's script, and the state right after a power-on reset. -/

namespace Sys2Proof.Machine

/-- The eight individual flags (10_state.md R31): S Z Y H X P N C. -/
structure Flags where
  sf : Bool
  zf : Bool
  yf : Bool
  hf : Bool
  xf : Bool
  pf : Bool
  nf : Bool
  cf : Bool
  deriving DecidableEq, Repr

/-- The register file: main set, alternate set (F' packed, R23), index registers and SP
(10_state.md R20, R22 to R25). -/
structure Regs where
  a : Byte
  b : Byte
  c : Byte
  d : Byte
  e : Byte
  h : Byte
  l : Byte
  aAlt : Byte
  fAlt : Byte
  bAlt : Byte
  cAlt : Byte
  dAlt : Byte
  eAlt : Byte
  hAlt : Byte
  lAlt : Byte
  ix : Word
  iy : Word
  sp : Word
  deriving DecidableEq, Repr

/-- The interrupt mode IM, one of 0, 1 and 2 (10_state.md R30). -/
inductive IntMode where
  | im0 | im1 | im2
  deriving DecidableEq, Repr

/-- The CTC prescaler divisor `div` (61_ctc.md R451). -/
inductive Divisor where
  | by16 | by256
  deriving DecidableEq, Repr

/-- A CTC channel (61_ctc.md R451). -/
structure Channel where
  counter : Nat
  reload : Nat
  pre : Nat
  div : Divisor
  counterMode : Bool
  rising : Bool
  trigWait : Bool
  waitTC : Bool
  running : Bool
  armed : Bool
  ie : Bool
  req : Bool
  acc : Bool
  level : Bool
  deriving DecidableEq, Repr

/-- The power-on values of a channel (61_ctc.md R451, R469). -/
def Channel.powerOn : Channel where
  counter := 256
  reload := 256
  pre := 16
  div := .by16
  counterMode := false
  rising := false
  trigWait := false
  waitTC := false
  running := false
  armed := false
  ie := false
  req := false
  acc := false
  level := false

/-- A CTC chip: four channels and the vector base (61_ctc.md R450). -/
structure Ctc where
  ch0 : Channel
  ch1 : Channel
  ch2 : Channel
  ch3 : Channel
  vecbase : Byte
  deriving DecidableEq, Repr

/-- `reset(powerOn)` of a CTC chip, the same for both kinds of reset (61_ctc.md R469). -/
def Ctc.afterReset : Ctc where
  ch0 := .powerOn
  ch1 := .powerOn
  ch2 := .powerOn
  ch3 := .powerOn
  vecbase := 0x00

/-- The operating mode of a PIO port (62_pio.md R491): 0, 1, 2 and 3. -/
inductive PioMode where
  | byteOut | byteIn | byteBidir | bitMode
  deriving DecidableEq, Repr

/-- What the next control byte of a PIO port is (62_pio.md R491, `expect`). -/
inductive Expect where
  | nothing | ioMask | intMask
  deriving DecidableEq, Repr

/-- A PIO port (62_pio.md R491). -/
structure Port where
  out : Byte
  inp : Byte
  ready : Bool
  mode : PioMode
  io : Byte
  vector : Byte
  ie : Bool
  andMode : Bool
  activeHigh : Bool
  mask : Byte
  expect : Expect
  req : Bool
  acc : Bool
  cond : Bool
  deriving DecidableEq, Repr

/-- The reset values of a port (62_pio.md R491, R510). -/
def Port.afterReset : Port where
  out := 0x00
  inp := 0x00
  ready := false
  mode := .byteIn
  io := 0xFF
  vector := 0x00
  ie := false
  andMode := false
  activeHigh := false
  mask := 0xFF
  expect := .nothing
  req := false
  acc := false
  cond := false

/-- A PIO chip: ports A and B (62_pio.md R490). -/
structure Pio where
  a : Port
  b : Port
  deriving DecidableEq, Repr

/-- `reset(powerOn)` of a PIO chip, the same for both kinds of reset (62_pio.md R510). -/
def Pio.afterReset : Pio := { a := .afterReset, b := .afterReset }

/-- The collaborator call that an access is (20_memory.md R61, R65): `readByte(a, true)`,
`readByte(a, false)`, `writeByte`, `readPort`, `writePort`. -/
inductive AccessKind where
  | m1 | read | write | ioRead | ioWrite
  deriving DecidableEq, Repr

/-- One byte access, with whether it fired the address-change notification (20_memory.md R73). -/
structure Access where
  kind : AccessKind
  addr : Word
  value : Byte
  notified : Bool
  deriving DecidableEq, Repr

/-- What an observer outside the core can see: an access (R73, R74), a zero count ZC(n) of a CTC channel
(61_ctc.md R465), a byte fetched from a PIO port by the peripheral (62_pio.md R502). -/
inductive Event where
  | access (x : Access)
  | zeroCount (chip : Nat) (chan : Chan)
  | fetchedOut (chip : Nat) (port : PortId) (value : Byte)
  deriving DecidableEq, Repr

/-- The 8-bit registers the host's accessor can write (60_exceptions.md R418, 10_state.md R20). -/
inductive NamedReg8 where
  | a | f | b | c | d | e | h | l
  | aAlt | fAlt | bAlt | cAlt | dAlt | eAlt | hAlt | lAlt
  | i | r
  deriving DecidableEq, Repr

/-- The 16-bit registers the host's accessor can write (R418, R20). -/
inductive NamedReg16 where
  | ix | iy | sp | pc
  deriving DecidableEq, Repr

/-- The flags and flip-flops the host's accessor can write (R418, R20). -/
inductive NamedFlag where
  | s | z | y | h | x | p | n | c | iff1 | iff2
  deriving DecidableEq, Repr

/-- A host interaction between two iterations (60_exceptions.md R418). Pausing and the debugger change
nothing (R419) and have no constructor. -/
inductive HostEvent where
  | fireNmi
  | addWait (n : Nat)
  | ctcLevel (chip : Nat) (chan : Chan) (level : Bool)
  | ctcPulse (chip : Nat) (chan : Chan)
  | pioPutIn (chip : Nat) (port : PortId) (value : Byte)
  | pioFetchOut (chip : Nat) (port : PortId)
  | writeReg8 (reg : NamedReg8) (v : Byte)
  | writeReg16 (reg : NamedReg16) (v : Word)
  | writeFlag (flag : NamedFlag) (v : Bool)
  | writeIm (m : IntMode)
  | writeMem (addr : Word) (v : Byte)
  /-- `reset(powerOn)`; `draw` and `drawFlags` are the values `draw()` gives at a power-on reset (R531). -/
  | reset (powerOn : Bool) (draw : Regs) (drawFlags : Flags)
  | stop
  deriving DecidableEq, Repr

/-- Memory as a list of (address, byte) pairs in canonical form: addresses strictly rising and below 2^16,
no entry equal to what an unlisted address reads as (20_memory.md R60, R69). -/
abbrev Memory := List Host.Cell

/-- The whole state. `platform` holds parameters fixed for a run (00_scope.md R5). `draws`, `trace`, `inbox`
and `stop` are the model's own (log 4, 9, 8, 7). -/
structure State where
  regs : Regs
  flags : Flags
  /-- PC (10_state.md R26). -/
  pc : Word
  /-- I (R27). -/
  i : Byte
  /-- The low 7 bits of R (R28). -/
  rlo7 : BitVec 7
  /-- Bit 7 of R (R28). -/
  rbit7 : Bool
  iff1 : Bool
  iff2 : Bool
  im : IntMode
  halted : Bool
  eidi : Bool
  afterPrefix : Bool
  nmiPending : Bool
  /-- Queued wait states (R41). -/
  waitAcc : Nat
  /-- The cumulative T-state counter (R42). -/
  tTotal : Nat
  /-- The current iteration's T-states (R43). -/
  t : Nat
  mem : Memory
  ctcs : List Ctc
  pios : List Pio
  platform : Platform
  /-- How many free values have been drawn (00_scope.md R8). -/
  draws : Nat
  /-- The observation log, newest event first (20_memory.md R73). -/
  trace : List Event
  /-- What the host does at the coming iteration boundaries, one list for each (60_exceptions.md R418). -/
  inbox : List (List HostEvent)
  /-- The host has asked to stop the run (R422 (c)). -/
  stop : Bool
  deriving DecidableEq, Repr

/-- The reasons a step can fault. -/
inductive Fault where
  /-- Raised where the decoder or a page's dispatch meets a case with no defined behaviour; the spec says
  that it is unreachable (60_exceptions.md R400). Safe. -/
  | internalConsistencyFailure
  /-- Raised by a CTC tick or trigger input when CTC_CHAIN is wired in a cycle of running counter-mode
  channels that all have time constant 1, where the rules R463 and R464 never end (log 10). Safe. -/
  | ctcChainLoop
  deriving DecidableEq, Repr

/-- The reasons a step can be refused. -/
inductive Refusal where
  /-- Raised by exec's arm of an instruction that has no meaning yet. Safe. -/
  | notModelled (mnemonic : String)
  /-- Raised by mode 0 acceptance when the source's vector is not a one-byte instruction of IM0_SINGLE;
  the spec itself refuses it (60_exceptions.md R408). Safe. -/
  | im0NotOneByte
  deriving DecidableEq, Repr

/-- What a step or a meaning answers. -/
abbrev Result := Host.Outcome State Fault Refusal

/-- The register values the model names for the power-on draws. DESIGN CHOICE (unsafe, log 1): the spec
gives draws (10_state.md R45). -/
def Regs.zero : Regs where
  a := 0
  b := 0
  c := 0
  d := 0
  e := 0
  h := 0
  l := 0
  aAlt := 0
  fAlt := 0
  bAlt := 0
  cAlt := 0
  dAlt := 0
  eAlt := 0
  hAlt := 0
  lAlt := 0
  ix := 0
  iy := 0
  sp := 0

/-- The flag values the model names for the power-on draws. DESIGN CHOICE (unsafe, log 1). -/
def Flags.zero : Flags where
  sf := false
  zf := false
  yf := false
  hf := false
  xf := false
  pf := false
  nf := false
  cf := false

/-- The machine right after a power-on reset (10_state.md R45, 70_reset_and_hazards.md R531, R532), with
memory listing nothing and the standard platform of one CTC and one PIO. -/
def State.reset : State where
  regs := .zero
  flags := .zero
  pc := 0x0000
  i := 0x00
  rlo7 := 0
  rbit7 := false
  iff1 := false
  iff2 := false
  im := .im0
  halted := false
  eidi := false
  afterPrefix := false
  nmiPending := false
  waitAcc := 0
  tTotal := 0
  t := 0
  mem := []
  ctcs := [.afterReset]
  pios := [.afterReset]
  platform := .standard
  draws := 0
  trace := []
  inbox := []
  stop := false

end Sys2Proof.Machine
end

