-- ==== Sys2Proof/Machine/Ctc.lean ====
section
/-! DEFINITION. The counter/timer chip (spec/61_ctc.md R450 to R469): register writes and reads, the
per-T-state prescaler and down-counter, trigger edges, the zero-count chain, and the interrupt-source
operations of R401. -/

namespace Sys2Proof.Machine

/-- Channel `n` of the chip. -/
def Ctc.chan (c : Ctc) : Chan → Channel
  | .ch0 => c.ch0
  | .ch1 => c.ch1
  | .ch2 => c.ch2
  | .ch3 => c.ch3

/-- The chip with channel `n` replaced. -/
def Ctc.setChan (c : Ctc) (n : Chan) (x : Channel) : Ctc :=
  match n with
  | .ch0 => { c with ch0 := x }
  | .ch1 => { c with ch1 := x }
  | .ch2 => { c with ch2 := x }
  | .ch3 => { c with ch3 := x }

/-- The channel's number, 0 to 3. -/
def chanIndex : Chan → Nat
  | .ch0 => 0
  | .ch1 => 1
  | .ch2 => 2
  | .ch3 => 3

/-- The prescaler divisor as a number of T-states. -/
def Divisor.count : Divisor → Nat
  | .by16 => 16
  | .by256 => 256

/-- CTC_CHAIN(n) (R464). -/
def chainTarget (w : Chain) : Chan → Option Chan
  | .ch0 => w.from0
  | .ch1 => w.from1
  | .ch2 => w.from2
  | .ch3 => none

/-- The chip during an operation that can count, with the zero counts so far, newest first (R465). -/
structure CtcRun where
  chip : Ctc
  zeroCounts : List Chan
  deriving DecidableEq, Repr

/-- The channel after an active edge while it is armed (R460): it starts, and the edge does not count. -/
def Channel.start (x : Channel) : Channel := { x with armed := false, running := true, pre := x.div.count }

/-- The channel after its counter reaches zero: reloaded, and requesting if its interrupt is enabled
(R463). -/
def Channel.rollover (x : Channel) : Channel := { x with counter := x.reload, req := x.req || x.ie }

/-- `Decrement(n)` (R463) with the chained pulse handled at once (R464). The number bounds the pulses of one
chain; `none` says that the chain did not end (log 10). -/
def Ctc.decrement (w : Chain) : Nat → Chan → CtcRun → Option CtcRun
  | 0, _, _ => none
  | fuel + 1, n, s =>
    let x := s.chip.chan n
    if x.counter - 1 = 0 then
      let s1 : CtcRun := { chip := s.chip.setChan n x.rollover, zeroCounts := n :: s.zeroCounts }
      match chainTarget w n with
      | none => some s1
      | some m =>
        let y := s1.chip.chan m
        if y.armed then some { s1 with chip := s1.chip.setChan m y.start }
        else if y.running && y.counterMode then Ctc.decrement w fuel m s1
        else some s1
    else some { s with chip := s.chip.setChan n { x with counter := x.counter - 1 } }

/-- More pulses than a chain that ends can give: with three chained outputs a chain that ends visits a
channel at most twice, so at most six pulses follow each other (log 10). -/
def chainBound : Nat := 8

/-- One active edge on the trigger input of channel `n`: R460 on an armed channel, R461 on a running
counter-mode channel, else nothing. This is `pulse(n)` (R462). DESIGN CHOICE (unsafe where a statement would rest on
it, log 19): an armed channel that a control word without a reset has switched to counter mode starts as R460 says,
its prescaler set to the divisor, although R461 says that an edge does not touch the prescaler of a counter-mode
channel. -/
def Ctc.pulse (w : Chain) (n : Chan) (s : CtcRun) : Option CtcRun :=
  let x := s.chip.chan n
  if x.armed then some { s with chip := s.chip.setChan n x.start }
  else if x.running && x.counterMode then Ctc.decrement w chainBound n s
  else some s

/-- `setLevel(n, l)` (R462). -/
def Ctc.setLevel (w : Chain) (n : Chan) (l : Bool) (s : CtcRun) : Option CtcRun :=
  let x := s.chip.chan n
  let s1 : CtcRun := { s with chip := s.chip.setChan n { x with level := l } }
  if (x.rising && !x.level && l) || (!x.rising && x.level && !l) then Ctc.pulse w n s1 else some s1

/-- One T-state of channel `n` (R459). -/
def Ctc.tickChan (w : Chain) (n : Chan) (s : CtcRun) : Option CtcRun :=
  let x := s.chip.chan n
  if x.running && !x.counterMode then
    if x.pre - 1 = 0 then
      Ctc.decrement w chainBound n { s with chip := s.chip.setChan n { x with pre := x.div.count } }
    else some { s with chip := s.chip.setChan n { x with pre := x.pre - 1 } }
  else some s

/-- One T-state of the chip: channels 0, 1, 2, 3 in that order (R459). -/
def Ctc.tickOne (w : Chain) (s : CtcRun) : Option CtcRun :=
  (Ctc.tickChan w .ch0 s).bind fun s0 =>
    (Ctc.tickChan w .ch1 s0).bind fun s1 =>
      (Ctc.tickChan w .ch2 s1).bind fun s2 =>
        Ctc.tickChan w .ch3 s2

/-- `onCyclesProcessed(T)`: T single T-state steps (R459). -/
def Ctc.tick (w : Chain) : Nat → CtcRun → Option CtcRun
  | 0, s => some s
  | n + 1, s => (Ctc.tickOne w s).bind (Ctc.tick w n)

/-- The channel after a control word (R454), with the software reset of bit 1 (R455). -/
def Channel.control (x : Channel) (v : Byte) : Channel :=
  let x1 : Channel :=
    { x with
      ie := v.getLsbD 7
      counterMode := v.getLsbD 6
      div := if v.getLsbD 5 then .by256 else .by16
      rising := v.getLsbD 4
      trigWait := v.getLsbD 3
      waitTC := v.getLsbD 2
      req := x.req && v.getLsbD 7 }
  if v.getLsbD 1 then { x1 with running := false, armed := false } else x1

/-- The time constant that the byte `v` stands for: 0 is 256 (R456). -/
def timeConstant (v : Byte) : Nat := if v = 0 then 256 else v.toNat

/-- The channel after a time constant (R456). -/
def Channel.timeConst (x : Channel) (v : Byte) : Channel :=
  let x1 : Channel := { x with reload := timeConstant v, waitTC := false }
  if !x.running && !x.armed then
    let x2 : Channel := { x1 with counter := x1.reload, pre := x1.div.count }
    if x.counterMode || !x.trigWait then { x2 with running := true } else { x2 with armed := true }
  else x1

/-- A byte written to channel `n`: a time constant, a control word or a vector (R453, R454, R456, R457). -/
def Ctc.write (c : Ctc) (n : Chan) (v : Byte) : Ctc :=
  let x := c.chan n
  if x.waitTC then c.setChan n (x.timeConst v)
  else if v.getLsbD 0 then c.setChan n (x.control v)
  else { c with vecbase := v &&& 0xF8 }

/-- A read of channel `n`: `counter mod 256` (R458). -/
def Ctc.read (c : Ctc) (n : Chan) : Byte := BitVec.ofNat 8 (c.chan n).counter

/-- The channel is in service or has an enabled request (R466). -/
def Channel.active (x : Channel) : Bool := x.acc || (x.req && x.ie)

/-- `first`: the lowest-numbered active channel (R466). -/
def Ctc.first (c : Ctc) : Option Chan :=
  if c.ch0.active then some .ch0
  else if c.ch1.active then some .ch1
  else if c.ch2.active then some .ch2
  else if c.ch3.active then some .ch3
  else none

/-- `hasBeenAccepted` (R466). -/
def Ctc.hasBeenAccepted (c : Ctc) : Bool :=
  match c.first with
  | some n => (c.chan n).acc
  | none => false

/-- `hasRequest` (R466). -/
def Ctc.hasRequest (c : Ctc) : Bool :=
  match c.first with
  | some n => !(c.chan n).acc
  | none => false

/-- The vector of channel `n`: `vecbase | n << 1` (R457). -/
def Ctc.vector (c : Ctc) (n : Chan) : Byte := c.vecbase ||| BitVec.ofNat 8 (2 * chanIndex n)

/-- `acceptAndReturnVector()` (R467). It is called only when `hasRequest` is true; with no active channel it
changes nothing. -/
def Ctc.accept (c : Ctc) : Byte × Ctc :=
  match c.first with
  | some n => (c.vector n, c.setChan n { c.chan n with req := false, acc := true })
  | none => (c.vecbase, c)

/-- `finishService()` (R468): the lowest accepted channel leaves service. -/
def Ctc.finish (c : Ctc) : Ctc :=
  if c.ch0.acc then { c with ch0 := { c.ch0 with acc := false } }
  else if c.ch1.acc then { c with ch1 := { c.ch1 with acc := false } }
  else if c.ch2.acc then { c with ch2 := { c.ch2 with acc := false } }
  else if c.ch3.acc then { c with ch3 := { c.ch3 with acc := false } }
  else c

end Sys2Proof.Machine
end

