-- ==== Sys2Proof/Machine/Memory.lean ====
section
/-! DEFINITION. Reading and writing one byte of memory (spec/20_memory.md R60, R69), and the canonical form
that equal memories share. -/

namespace Sys2Proof.Machine

/-- The byte at address `a`: the last one written there, or what an unlisted address reads as. -/
def Memory.read : Memory → Nat → Byte
  | [], _ => Config.unlistedByte
  | (b, v) :: rest, a => if a = b then v else if a < b then Config.unlistedByte else Memory.read rest a

/-- The cell list that lists `v` at `a` before `rest`, unless `v` is what an unlisted address reads as. -/
def Memory.listed (a : Nat) (v : Byte) (rest : Memory) : Memory :=
  if v = Config.unlistedByte then rest else (a, v) :: rest

/-- Memory after the byte `v` is written at `a`; every other address keeps its byte. -/
def Memory.write : Memory → Nat → Byte → Memory
  | [], a, v => Memory.listed a v []
  | (b, w) :: rest, a, v =>
    if a < b then Memory.listed a v ((b, w) :: rest)
    else if a = b then Memory.listed a v rest
    else (b, w) :: Memory.write rest a v

/-- The canonical form from address `lo` on: addresses strictly rising, below 2^16, and no entry equal to
what an unlisted address reads as. -/
def Memory.wfFrom (lo : Nat) : Memory → Bool
  | [] => true
  | (a, v) :: rest => decide (lo ≤ a) && decide (a < 65536) && (v != Config.unlistedByte) && Memory.wfFrom (a + 1) rest

/-- The canonical form. -/
def Memory.wf (m : Memory) : Bool := Memory.wfFrom 0 m

end Sys2Proof.Machine
end

