-- ==== Sys2Proof/Machine/Pio.lean ====
section
/-! DEFINITION. The parallel I/O chip (spec/62_pio.md R490 to R512): the control protocol, the data path and
handshake, the bit-mode condition and its edge, the mode 2 coupling, and the interrupt-source operations of
R401. The chip has no clock (R511). -/

namespace Sys2Proof.Machine

/-- Port `x` of the chip. -/
def Pio.port (p : Pio) : PortId → Port
  | .a => p.a
  | .b => p.b

/-- The chip with port `x` replaced. -/
def Pio.setPort (p : Pio) (x : PortId) (q : Port) : Pio :=
  match x with
  | .a => { p with a := q }
  | .b => { p with b := q }

/-- `Visible(X)` (R504): output lines show the output register, input lines the live input bits. -/
def Port.visible (q : Port) : Byte := (q.out &&& ~~~q.io) ||| (q.inp &&& q.io)

/-- `Cond(X)` (R505): the AND or OR of the monitored lines at the active level, in mode 3 only; an empty
monitored set is never true. -/
def Port.condition (q : Port) : Bool :=
  let m := ~~~q.mask
  let act := if q.activeHigh then q.visible else ~~~q.visible
  if q.mode ≠ .bitMode then false
  else if m = 0 then false
  else if q.andMode then decide (act &&& m = m)
  else decide (act &&& m ≠ 0)

/-- `Recompute(X)` (R505): the condition is remembered and nothing is requested. -/
def Port.recompute (q : Port) : Port := { q with cond := q.condition }

/-- `Evaluate(X)` (R505): a request on the transition into the condition. While port A is in mode 2, port B's
own condition never requests (R506). -/
def Pio.evaluate (p : Pio) (x : PortId) : Pio :=
  let q := p.port x
  let c := q.condition
  let coupled := decide (x = .b) && decide (p.a.mode = .byteBidir)
  let fire := c && !q.cond && q.ie && !coupled
  p.setPort x { q with req := q.req || fire, cond := c }

/-- The mode of a mode word, `v[7:6]` (R495). -/
def PioMode.ofBits (v : Byte) : PioMode :=
  match v.getLsbD 7, v.getLsbD 6 with
  | false, false => .byteOut
  | false, true => .byteIn
  | true, false => .byteBidir
  | true, true => .bitMode

/-- The port after a control byte, in the order of tests of R493: the awaited mask (R496, R498), a vector
(R494), a mode word (R495), an interrupt control word (R497), an interrupt enable word (R499), or nothing. -/
def Port.controlWrite (q : Port) (v : Byte) : Port :=
  match q.expect with
  | .ioMask => Port.recompute { q with io := v, expect := .nothing }
  | .intMask => Port.recompute { q with mask := v, expect := .nothing }
  | .nothing =>
    if !v.getLsbD 0 then { q with vector := v }
    else if v &&& 0x0F = 0x0F then
      let m := PioMode.ofBits v
      Port.recompute { q with mode := m, ready := false, expect := if m = .bitMode then .ioMask else .nothing }
    else if v &&& 0x0F = 0x07 then
      Port.recompute
        { q with
          ie := v.getLsbD 7
          andMode := v.getLsbD 6
          activeHigh := v.getLsbD 5
          req := q.req && v.getLsbD 7 && !v.getLsbD 4
          expect := if v.getLsbD 4 then .intMask else .nothing }
    else if v &&& 0x0F = 0x03 then
      Port.recompute { q with ie := v.getLsbD 7, req := q.req && v.getLsbD 7 }
    else q

/-- A byte written to control register X (R493). -/
def Pio.controlWrite (p : Pio) (x : PortId) (v : Byte) : Pio := p.setPort x ((p.port x).controlWrite v)

/-- A byte written to data register X (R500). -/
def Pio.dataWrite (p : Pio) (x : PortId) (v : Byte) : Pio :=
  let q := { p.port x with out := v }
  match q.mode with
  | .byteOut | .byteBidir => p.setPort x { q with ready := true }
  | .byteIn => p.setPort x q
  | .bitMode => Pio.evaluate (p.setPort x q) x

/-- A read of data register X: the value and the chip after it (R501). -/
def Pio.dataRead (p : Pio) (x : PortId) : Byte × Pio :=
  let q := p.port x
  match q.mode, x with
  | .byteOut, _ => (q.out, p)
  | .byteIn, _ => (q.inp, p.setPort x { q with ready := true })
  | .byteBidir, .a => (q.inp, { p with b := { p.b with ready := true } })
  | .byteBidir, .b => (q.out, p)
  | .bitMode, _ => (q.visible, p)

/-- The host operation `fetchOut(X)` (R502): the byte and the chip after it. -/
def Pio.fetchOut (p : Pio) (x : PortId) : Byte × Pio :=
  let q := p.port x
  match q.mode with
  | .byteOut | .byteBidir => (q.out, p.setPort x { q with ready := false, req := q.req || q.ie })
  | .byteIn => (q.out, p)
  | .bitMode => (q.visible, p)

/-- The host operation `putIn(X, v)` (R503): in mode 2 port A's input side is port B's handshake (R506). -/
def Pio.putIn (p : Pio) (x : PortId) (v : Byte) : Pio :=
  let q := { p.port x with inp := v }
  let p1 := p.setPort x q
  match q.mode, x with
  | .byteOut, _ => p1
  | .byteIn, _ => p.setPort x { q with ready := false, req := q.req || q.ie }
  | .byteBidir, .a => { p1 with b := { p1.b with ready := false, req := p1.b.req || p1.b.ie } }
  | .byteBidir, .b => p1
  | .bitMode, _ => Pio.evaluate p1 x

/-- The port is in service or has an enabled request (R507). -/
def Port.active (q : Port) : Bool := q.acc || (q.req && q.ie)

/-- `first`: port A before port B (R507). -/
def Pio.first (p : Pio) : Option PortId :=
  if p.a.active then some .a else if p.b.active then some .b else none

/-- `hasBeenAccepted` (R507). -/
def Pio.hasBeenAccepted (p : Pio) : Bool :=
  match p.first with
  | some x => (p.port x).acc
  | none => false

/-- `hasRequest` (R507). -/
def Pio.hasRequest (p : Pio) : Bool :=
  match p.first with
  | some x => !(p.port x).acc
  | none => false

/-- `acceptAndReturnVector()` (R508). It is called only when `hasRequest` is true; with no active port it
changes nothing. -/
def Pio.accept (p : Pio) : Byte × Pio :=
  match p.first with
  | some x => ((p.port x).vector, p.setPort x { p.port x with req := false, acc := true })
  | none => (p.a.vector, p)

/-- `finishService()` (R509). -/
def Pio.finish (p : Pio) : Pio :=
  if p.a.acc then { p with a := { p.a with acc := false } }
  else if p.b.acc then { p with b := { p.b with acc := false } }
  else p

end Sys2Proof.Machine
end

