-- ==== Sys2Proof/Machine/Ops.lean ====
section
/-! DEFINITION. The named operations over the state: T-states, the refresh counter, memory and I/O accesses
with their notifications (spec/20_memory.md R61 to R80), instruction fetch (30_encoding.md R111, R112), the
interrupt sources (60_exceptions.md R401, R402), taking an interrupt and returning from one (R405 to R411,
R415). An operation that reads answers the value and the state after it. -/

namespace Sys2Proof.Machine

/-! ## Counters and the trace -/

/-- `T += n` (10_state.md R43). -/
def charge (n : Nat) (s : State) : State := { s with t := s.t + n }

/-- The row of the platform's TSTATE_TABLE for the instruction `i`, where it differs from the default
(00_scope.md R5). -/
def tableRow (pl : Platform) (i : Instr) : Option TStateRow :=
  pl.tstates.rows.find? fun r => r.form.ctorIdx == i.ctorIdx

/-- The T-states of the instruction `i` by TSTATE_TABLE, whose default is `n` (R5,
70_reset_and_hazards.md R539). -/
def State.cost (s : State) (i : Instr) (n : Nat) : Nat := ((tableRow s.platform i).map (·.taken)).getD n

/-- The second count of a form that has two, where its condition fails or it does not repeat (R5, R539). -/
def State.costNot (s : State) (i : Instr) (n : Nat) : Nat := ((tableRow s.platform i).map (·.other)).getD n

/-- `IncR()` (R28): mod 128, bit 7 kept. -/
def incR (s : State) : State := { s with rlo7 := s.rlo7 + 1 }

/-- `PC <- a`. -/
def setPc (a : Word) (s : State) : State := { s with pc := a }

/-- Append an event to the observation log (20_memory.md R73). -/
def observe (e : Event) (s : State) : State := { s with trace := e :: s.trace }

/-- Whether the high byte of a two-byte access of this kind notifies (R73, WORD_NOTIFY). -/
def highNotifies (s : State) (k : WordAccess) : Bool := !s.platform.wordHelpers.contains k

/-! ## Memory -/

/-- What MEM_MAP says of the address `a` (R69). -/
def memKind (pl : Platform) (a : Word) : MemKind :=
  ((pl.memMap.find? fun r => decide (r.first ≤ a) && decide (a ≤ r.last)).map (·.kind)).getD .ram

/-- The byte stored at `a`. -/
def stored (s : State) (a : Word) : Byte := s.mem.read a.toNat

/-- The byte the memory collaborator holds at `a` when `d` free values have been drawn (R69): in a device range
the next free value. -/
def heldByte (s : State) (d : Nat) (a : Word) : Byte :=
  if memKind s.platform a = .device then Config.freeByte d else stored s a

/-- How many free values a read of `a` draws. -/
def drawsOf (s : State) (a : Word) : Nat := if memKind s.platform a = .device then 1 else 0

/-- `Peek(a)` (30_encoding.md R111): no access, no side effect. -/
def peek (s : State) (a : Word) : Byte := heldByte s s.draws a

/-- One read access of the kind `kind` (R61, R69). -/
def readAs (kind : AccessKind) (notify : Bool) (a : Word) (s : State) : Byte × State :=
  let v := peek s a
  (v, observe (.access { kind := kind, addr := a, value := v, notified := notify })
    { s with draws := s.draws + drawsOf s a })

/-- `MemRead(a, 1)` (R61). -/
def memRead (a : Word) (s : State) : Byte × State := readAs .read true a s

/-- What a write of `v` to `a` does to the memory collaborator (R69): only RAM takes the byte. -/
def storeByte (a : Word) (v : Byte) (s : State) : State :=
  if memKind s.platform a = .ram then { s with mem := s.mem.write a.toNat v } else s

/-- One write access (R61, R69). -/
def writeAs (notify : Bool) (a : Word) (v : Byte) (s : State) : State :=
  observe (.access { kind := .write, addr := a, value := v, notified := notify }) (storeByte a v s)

/-- `MemWrite(a, 1, v)` (R61). -/
def memWrite (a : Word) (v : Byte) (s : State) : State := writeAs true a v s

/-- `MemRead(a, 2)`: low byte first, at `a`; the high byte at `a + 1` (R62, R71). -/
def readWord (k : WordAccess) (a : Word) (s : State) : Word × State :=
  let lo := readAs .read true a s
  let hi := readAs .read (highNotifies s k) (a + 1) lo.2
  (mkWord hi.1 lo.1, hi.2)

/-- `MemWrite(a, 2, v)`: low byte first (R62, R71). -/
def writeWord (k : WordAccess) (a : Word) (v : Word) (s : State) : State :=
  writeAs (highNotifies s k) (a + 1) (hiByte v) (writeAs true a (loByte v) s)

/-- `SP <- v`. -/
def setSp (v : Word) (s : State) : State := { s with regs := { s.regs with sp := v } }

/-- `Push16(v)`: the high byte first, at the higher address (R79). -/
def push16 (v : Word) (s : State) : State :=
  let sp := s.regs.sp
  setSp (sp - 2)
    (writeAs true (sp - 2) (loByte v) (writeAs (highNotifies s .push) (sp - 1) (hiByte v) s))

/-- `Pop16()` (R79). -/
def pop16 (s : State) : Word × State :=
  let r := readWord .pop s.regs.sp s
  (r.1, setSp (s.regs.sp + 2) r.2)

/-! ## Instruction fetch -/

/-- `FetchM1()` (30_encoding.md R111): one opcode-fetch access, PC and R advanced. -/
def fetchM1 (s : State) : State :=
  incR (setPc (s.pc + 1) (readAs .m1 true s.pc s).2)

/-- `Imm8()`: one operand byte at PC (R80, R99), PC advanced. -/
def fetchOperand (notify : Bool) (s : State) : State :=
  setPc (s.pc + 1) (readAs .read notify s.pc s).2

/-- `n` opcode fetches. -/
def fetchM1s : Nat → State → State
  | 0, s => s
  | n + 1, s => fetchM1s n (fetchM1 s)

/-- `n` operand fetches. -/
def fetchOperands : Nat → State → State
  | 0, s => s
  | n + 1, s => fetchOperands n (fetchOperand true s)

/-- The state after an instruction's bytes have been fetched, but for the first `done` opcode bytes, which
have been fetched already (R77, R111; log 13). -/
def fetchCode (done : Nat) (c : Code) (s : State) : State :=
  let s1 := fetchM1s (c.m1.length - done) s
  if c.imm16 then fetchOperand (highNotifies s .imm16) (fetchOperand true s1)
  else fetchOperands c.operand.length s1

/-- The `n` bytes that fetches from `a` on read when `d` free values have been drawn. -/
def windowFrom (s : State) (a : Word) (d : Nat) : Nat → List Byte
  | 0 => []
  | n + 1 => heldByte s d a :: windowFrom s (a + 1) (d + drawsOf s a) n

/-- The `n` bytes at `a` and after it, wrapping at the top of memory (20_memory.md R63): those that fetches
from `a` on read. -/
def window (s : State) (a : Word) (n : Nat) : List Byte := windowFrom s a s.draws n

/-! ## I/O -/

/-- What the port address `p` selects: the first rule of PORT_MAP that matches (R66). -/
def portTarget (pl : Platform) (p : Word) : Option PortTarget :=
  (pl.portMap.find? fun r => p &&& r.mask == r.value).map (·.target)

/-- `draw()` for an I/O read to which no rule gives a value (00_scope.md R8, R66, 62_pio.md R492; log 4). -/
def drawByte (s : State) : Byte × State := (Config.freeByte s.draws, { s with draws := s.draws + 1 })

/-- A read of a port that no device answers: IO_UNMAPPED, a draw by default (R5, R66). -/
def unanswered (s : State) : Byte × State :=
  match s.platform.ioUnmapped with
  | some v => (v, s)
  | none => drawByte s

/-- The value a device gives to a read, with its side effects (R66, R72; 61_ctc.md R458; 62_pio.md R492,
R501). DESIGN CHOICE (unsafe where the device would act on a chip or on memory, log 4): a device other than the CTC
and the PIO gives a free value and changes nothing. -/
def portRead (p : Word) (s : State) : Byte × State :=
  match portTarget s.platform p with
  | some (.ctc k n) =>
    match s.ctcs[k]? with
    | some c => (c.read n, s)
    | none => unanswered s
  | some (.pioData k x) =>
    match s.pios[k]? with
    | some q => ((q.dataRead x).1, { s with pios := s.pios.set k (q.dataRead x).2 })
    | none => unanswered s
  | some (.pioControl k _) =>
    match s.pios[k]? with
    | some _ => drawByte s
    | none => unanswered s
  | some .device => drawByte s
  | none => unanswered s

/-- The effect of a write on the device that answers (R66; 61_ctc.md R453; 62_pio.md R493, R500); on a device other
than the CTC and the PIO, none on the state (log 4). -/
def portWrite (p : Word) (v : Byte) (s : State) : State :=
  match portTarget s.platform p with
  | some (.ctc k n) =>
    match s.ctcs[k]? with
    | some c => { s with ctcs := s.ctcs.set k (c.write n v) }
    | none => s
  | some (.pioData k x) =>
    match s.pios[k]? with
    | some q => { s with pios := s.pios.set k (q.dataWrite x v) }
    | none => s
  | some (.pioControl k x) =>
    match s.pios[k]? with
    | some q => { s with pios := s.pios.set k (q.controlWrite x v) }
    | none => s
  | some .device => s
  | none => s

/-- `IoRead(p)` (R65). -/
def ioRead (p : Word) (s : State) : Byte × State :=
  let r := portRead p s
  (r.1, observe (.access { kind := .ioRead, addr := p, value := r.1, notified := true }) r.2)

/-- `IoWrite(p, v)` (R65, R66). -/
def ioWrite (p : Word) (v : Byte) (s : State) : State :=
  observe (.access { kind := .ioWrite, addr := p, value := v, notified := true }) (portWrite p v s)

/-! ## Interrupt sources -/

/-- `hasBeenAccepted(s)` (60_exceptions.md R401). -/
def sourceAccepted (s : State) : SourceId → Bool
  | .ctc k => (s.ctcs[k]?.map Ctc.hasBeenAccepted).getD false
  | .pio k => (s.pios[k]?.map Pio.hasBeenAccepted).getD false

/-- `hasRequest(s)` (R401). -/
def sourceRequests (s : State) : SourceId → Bool
  | .ctc k => (s.ctcs[k]?.map Ctc.hasRequest).getD false
  | .pio k => (s.pios[k]?.map Pio.hasRequest).getD false

/-- `acceptAndReturnVector(s)` (R401). -/
def sourceAccept (id : SourceId) (s : State) : Byte × State :=
  match id with
  | .ctc k =>
    match s.ctcs[k]? with
    | some c => (c.accept.1, { s with ctcs := s.ctcs.set k c.accept.2 })
    | none => (0, s)
  | .pio k =>
    match s.pios[k]? with
    | some q => (q.accept.1, { s with pios := s.pios.set k q.accept.2 })
    | none => (0, s)

/-- `finishService(s)` (R401). -/
def sourceFinish (id : SourceId) (s : State) : State :=
  match id with
  | .ctc k =>
    match s.ctcs[k]? with
    | some c => { s with ctcs := s.ctcs.set k c.finish }
    | none => s
  | .pio k =>
    match s.pios[k]? with
    | some q => { s with pios := s.pios.set k q.finish }
    | none => s

/-- The source the scan of R407 services: the first one in priority order that is in service stops the scan,
the first one with a request is taken. -/
def scanSources (s : State) : List SourceId → Option SourceId
  | [] => none
  | id :: rest =>
    if sourceAccepted s id then none
    else if sourceRequests s id then some id
    else scanSources s rest

/-! ## Taking an interrupt and returning from one -/

/-- What every acceptance does first (R405, R407, R411): HALT ends and R is incremented once. -/
def acknowledge (s : State) : State := incR { s with halted := false }

/-- Save PC on the stack and go to a handler, charging the acceptance's T-states: the shared entry of the NMI
and of modes 1 and 2 (R405, R409, R410). -/
def enterHandler (target : State → Word × State) (cost : Nat) (s : State) : State :=
  let s1 := push16 s.pc s
  let r := target s1
  charge cost (setPc r.1 r.2)

/-- `AcceptNMI()` (R405, R411). -/
def acceptNmi (s : State) : State :=
  enterHandler (fun s1 => (0x0066, { s1 with iff2 := s1.iff1, iff1 := false })) s.platform.accept.nmi
    (acknowledge { s with nmiPending := false })

/-- The steps of `AcceptINT(s)` before the dispatch on the mode (R407): the vector and the state. -/
def acceptSource (id : SourceId) (s : State) : Byte × State :=
  sourceAccept id { acknowledge s with iff1 := false, iff2 := false }

/-- `AcceptIM1()` (R409, R411). -/
def acceptIm1 (s : State) : State := enterHandler (fun s1 => (0x0038, s1)) s.platform.accept.im1 s

/-- `AcceptIM2(v)` (R410, R411). -/
def acceptIm2 (v : Byte) (s : State) : State :=
  enterHandler (fun s1 => readWord .tableRead (mkWord s1.i v) s1) s.platform.accept.im2 s

/-- `FinishService()` (R350, R415): the first source in priority order that is in service, and no other. -/
def finishService (s : State) : State :=
  match s.platform.intSources.find? (sourceAccepted s) with
  | some id => sourceFinish id s
  | none => s

/-- `PC <- Pop16()`: RET (R348). -/
def returnFromCall (s : State) : State :=
  let r := pop16 s
  setPc r.1 r.2

/-- `PC <- Pop16(); IFF1 <- IFF2`: the return that RETN and RETI share (R350, R351). -/
def returnFromInterrupt (s : State) : State :=
  let s1 := returnFromCall s
  { s1 with iff1 := s1.iff2 }

end Sys2Proof.Machine
end

