-- ==== Sys2Proof/Machine/Operands.lean ====
section
/-! DEFINITION. Every operand form of the instructions: 8-bit registers, index halves, register pairs, the
packed flags byte, conditions, and the effective address (spec/10_state.md R22 to R33, 30_encoding.md R93 to
R104). -/

namespace Sys2Proof.Machine

/-! ## The packed flags byte -/

/-- `F` (R32). -/
def Flags.pack (f : Flags) : Byte :=
  bitAt f.sf 7 ||| bitAt f.zf 6 ||| bitAt f.yf 5 ||| bitAt f.hf 4 |||
    bitAt f.xf 3 ||| bitAt f.pf 2 ||| bitAt f.nf 1 ||| bitAt f.cf 0

/-- The flags that the byte `v` sets when it is written to F (R33). -/
def Flags.unpack (v : Byte) : Flags where
  sf := v.getLsbD 7
  zf := v.getLsbD 6
  yf := v.getLsbD 5
  hf := v.getLsbD 4
  xf := v.getLsbD 3
  pf := v.getLsbD 2
  nf := v.getLsbD 1
  cf := v.getLsbD 0

/-- `cond(c)` (R96). -/
def Flags.cond (f : Flags) : Cond → Bool
  | .nz => !f.zf
  | .z => f.zf
  | .nc => !f.cf
  | .c => f.cf
  | .po => !f.pf
  | .pe => f.pf
  | .p => !f.sf
  | .m => f.sf

/-- `cond(c)` for JR (R96). -/
def Flags.jrCond (f : Flags) : JrCond → Bool
  | .nz => !f.zf
  | .z => f.zf
  | .nc => !f.cf
  | .c => f.cf

/-! ## 8-bit registers -/

/-- `reg8(c, None)` (R93). -/
def Regs.get8 (g : Regs) : Reg8 → Byte
  | .b => g.b
  | .c => g.c
  | .d => g.d
  | .e => g.e
  | .h => g.h
  | .l => g.l
  | .a => g.a

/-- `reg8(c, None) <- v` (R93). -/
def Regs.set8 (g : Regs) (r : Reg8) (v : Byte) : Regs :=
  match r with
  | .b => { g with b := v }
  | .c => { g with c := v }
  | .d => { g with d := v }
  | .e => { g with e := v }
  | .h => { g with h := v }
  | .l => { g with l := v }
  | .a => { g with a := v }

/-- IX or IY (R102). -/
def Regs.getIndex (g : Regs) : Index → Word
  | .ix => g.ix
  | .iy => g.iy

/-- IX or IY written. -/
def Regs.setIndex (g : Regs) (x : Index) (v : Word) : Regs :=
  match x with
  | .ix => { g with ix := v }
  | .iy => { g with iy := v }

/-- One half of a 16-bit register (R24). -/
def halfOf (w : Word) : Half → Byte
  | .hi => hiByte w
  | .lo => loByte w

/-- A 16-bit register with one half replaced, the other unchanged (R24). -/
def withHalf (w : Word) (h : Half) (v : Byte) : Word :=
  match h with
  | .hi => mkWord v (loByte w)
  | .lo => mkWord (hiByte w) v

/-- IXh, IXl, IYh or IYl (R24). -/
def Regs.getHalf (g : Regs) (x : Index) (h : Half) : Byte := halfOf (g.getIndex x) h

/-- IXh, IXl, IYh or IYl written (R24). -/
def Regs.setHalf (g : Regs) (x : Index) (h : Half) (v : Byte) : Regs :=
  g.setIndex x (withHalf (g.getIndex x) h v)

/-- `reg8(c, ctx)` in index context (R103). -/
def Regs.getX8 (g : Regs) (x : Index) : XReg8 → Byte
  | .b => g.b
  | .c => g.c
  | .d => g.d
  | .e => g.e
  | .xh => g.getHalf x .hi
  | .xl => g.getHalf x .lo
  | .a => g.a

/-- `reg8(c, ctx) <- v` in index context (R103). -/
def Regs.setX8 (g : Regs) (x : Index) (r : XReg8) (v : Byte) : Regs :=
  match r with
  | .b => { g with b := v }
  | .c => { g with c := v }
  | .d => { g with d := v }
  | .e => { g with e := v }
  | .xh => g.setHalf x .hi v
  | .xl => g.setHalf x .lo v
  | .a => { g with a := v }

/-! ## Register pairs (R22) -/

/-- BC. -/
def Regs.bc (g : Regs) : Word := mkWord g.b g.c
/-- DE. -/
def Regs.de (g : Regs) : Word := mkWord g.d g.e
/-- HL. -/
def Regs.hl (g : Regs) : Word := mkWord g.h g.l
/-- BC written. -/
def Regs.setBc (g : Regs) (v : Word) : Regs := { g with b := hiByte v, c := loByte v }
/-- DE written. -/
def Regs.setDe (g : Regs) (v : Word) : Regs := { g with d := hiByte v, e := loByte v }
/-- HL written. -/
def Regs.setHl (g : Regs) (v : Word) : Regs := { g with h := hiByte v, l := loByte v }

/-- `reg16(p, None)` (R94). -/
def Regs.getPair (g : Regs) : Pair → Word
  | .bc => g.bc
  | .de => g.de
  | .hl => g.hl
  | .sp => g.sp

/-- `reg16(p, None) <- v` (R94). -/
def Regs.setPair (g : Regs) (p : Pair) (v : Word) : Regs :=
  match p with
  | .bc => g.setBc v
  | .de => g.setDe v
  | .hl => g.setHl v
  | .sp => { g with sp := v }

/-- `reg16(p, ctx)` in index context (R94, R103). -/
def Regs.getXPair (g : Regs) (x : Index) : XPair → Word
  | .bc => g.bc
  | .de => g.de
  | .xx => g.getIndex x
  | .sp => g.sp

/-- The pointer of LD A,(BC), LD A,(DE), LD (BC),A and LD (DE),A (40_load8.md R145, R147). -/
def Regs.getPtr (g : Regs) : PtrPair → Word
  | .bc => g.bc
  | .de => g.de

/-! ## The same on the state -/

/-- The register file replaced. -/
def State.withRegs (s : State) (g : Regs) : State := { s with regs := g }
/-- The flags replaced. -/
def State.withFlags (s : State) (f : Flags) : State := { s with flags := f }
/-- A 8-bit register written. -/
def State.setReg8 (s : State) (r : Reg8) (v : Byte) : State := s.withRegs (s.regs.set8 r v)
/-- A written. -/
def State.setA (s : State) (v : Byte) : State := s.withRegs { s.regs with a := v }

/-- The pair that PUSH q stores: BC, DE, HL or A:F (30_encoding.md R95). -/
def State.getStackPair (s : State) : StackPair → Word
  | .bc => s.regs.bc
  | .de => s.regs.de
  | .hl => s.regs.hl
  | .af => mkWord s.regs.a s.flags.pack

/-- The pair that POP q loads (41_load16.md R177). -/
def State.setStackPair (s : State) (q : StackPair) (v : Word) : State :=
  match q with
  | .bc => s.withRegs (s.regs.setBc v)
  | .de => s.withRegs (s.regs.setDe v)
  | .hl => s.withRegs (s.regs.setHl v)
  | .af => (s.setA (hiByte v)).withFlags (Flags.unpack (loByte v))

/-- `EA(IX)` or `EA(IY)` (30_encoding.md R101, R104). -/
def Regs.indexed (g : Regs) (x : Index) (d : Byte) : Word := g.getIndex x + sext16 d

/-- The port address `A << 8 | n` (49_io.md R370, R373). -/
def State.portAN (s : State) (n : Byte) : Word := mkWord s.regs.a n

end Sys2Proof.Machine
end

