-- ==== Sys2Proof/Machine/Flags.lean ====
section
/-! DEFINITION. Every flag computation of the spec: the add, subtract and logic helpers (43_alu8.md R221 to
R223), INC and DEC (R232, R233), DAA (44_general.md R250), the 16-bit helpers (45_alu16.md R270 to R272), the
rotates and shifts (46_rotate_shift.md R290 to R302), BIT (47_bit.md R320), and the block instructions
(42_exchange_block.md R194, R198; 49_io.md R371, R376). A helper that gives a result answers it with the
flags after the instruction; the flags before it are an argument where a flag is unchanged. -/

namespace Sys2Proof.Machine

/-- `parity(v)` (10_state.md R34): an even number of one bits. -/
def parity (v : Byte) : Bool :=
  !(v.getLsbD 0 ^^ v.getLsbD 1 ^^ v.getLsbD 2 ^^ v.getLsbD 3 ^^
    v.getLsbD 4 ^^ v.getLsbD 5 ^^ v.getLsbD 6 ^^ v.getLsbD 7)

/-- `add8(a, b, c)` (R221). -/
def add8 (a b : Byte) (c : Bool) : Byte × Flags :=
  let r := a.toNat + b.toNat + bitNat c
  let res := BitVec.ofNat 8 r
  let x := a.toNat ^^^ b.toNat ^^^ r
  (res,
    { sf := res.getLsbD 7
      zf := decide (res = 0)
      yf := res.getLsbD 5
      hf := x.testBit 4
      xf := res.getLsbD 3
      pf := x.testBit 7 ^^ r.testBit 8
      nf := false
      cf := r.testBit 8 })

/-- `sub8(a, b, c)` (R222): r is the 9-bit difference. -/
def sub8 (a b : Byte) (c : Bool) : Byte × Flags :=
  let r := (a.toNat + 512 - b.toNat - bitNat c) % 512
  let res := BitVec.ofNat 8 r
  let x := a.toNat ^^^ b.toNat ^^^ r
  (res,
    { sf := res.getLsbD 7
      zf := decide (res = 0)
      yf := res.getLsbD 5
      hf := x.testBit 4
      xf := res.getLsbD 3
      pf := x.testBit 7 ^^ r.testBit 8
      nf := true
      cf := r.testBit 8 })

/-- `logic(res, h)` (R223). -/
def logic (res : Byte) (h : Bool) : Flags where
  sf := res.getLsbD 7
  zf := decide (res = 0)
  yf := res.getLsbD 5
  hf := h
  xf := res.getLsbD 3
  pf := parity res
  nf := false
  cf := false

/-- The flags of CP: those of the subtraction with Y and X from the operand (R231). -/
def cpFlags (a v : Byte) : Flags :=
  { (sub8 a v false).2 with yf := v.getLsbD 5, xf := v.getLsbD 3 }

/-- INC m (R232). -/
def inc8 (v : Byte) (f : Flags) : Byte × Flags :=
  let res := v + 1
  (res,
    { sf := res.getLsbD 7
      zf := decide (res = 0)
      yf := res.getLsbD 5
      hf := decide (res &&& 0x0F = 0)
      xf := res.getLsbD 3
      pf := decide (res = 0x80)
      nf := false
      cf := f.cf })

/-- DEC m (R233). -/
def dec8 (v : Byte) (f : Flags) : Byte × Flags :=
  let res := v - 1
  (res,
    { sf := res.getLsbD 7
      zf := decide (res = 0)
      yf := res.getLsbD 5
      hf := decide (res &&& 0x0F = 0x0F)
      xf := res.getLsbD 3
      pf := decide (res = 0x7F)
      nf := true
      cf := f.cf })

/-- DAA (R250). -/
def daa (a : Byte) (f : Flags) : Byte × Flags :=
  let lowNibble := (a &&& 0x0F).toNat
  let adjLow := f.hf || decide (lowNibble > 9)
  let adjHigh := f.cf || decide (a.toNat > 0x99)
  let diff : Byte := (if adjLow then 0x06 else 0) ||| (if adjHigh then 0x60 else 0)
  let res := if f.nf then a - diff else a + diff
  (res,
    { sf := res.getLsbD 7
      zf := decide (res = 0)
      yf := res.getLsbD 5
      hf := if f.nf then f.hf && decide (lowNibble < 6) else decide (lowNibble > 9)
      xf := res.getLsbD 3
      pf := parity res
      nf := f.nf
      cf := adjHigh })

/-- `ADD HL,p` and its index forms (R270): S, Z and P unchanged. -/
def add16 (a b : Word) (f : Flags) : Word × Flags :=
  let r := a.toNat + b.toNat
  let res := BitVec.ofNat 16 r
  let x := a.toNat ^^^ b.toNat ^^^ r
  (res,
    { f with
      yf := res.getLsbD 13
      hf := x.testBit 12
      xf := res.getLsbD 11
      nf := false
      cf := r.testBit 16 })

/-- ADC HL,p (R271). -/
def adc16 (a b : Word) (c : Bool) : Word × Flags :=
  let r := a.toNat + b.toNat + bitNat c
  let res := BitVec.ofNat 16 r
  let x := a.toNat ^^^ b.toNat ^^^ r
  (res,
    { sf := res.getLsbD 15
      zf := decide (res = 0)
      yf := res.getLsbD 13
      hf := x.testBit 12
      xf := res.getLsbD 11
      pf := x.testBit 15 ^^ r.testBit 16
      nf := false
      cf := r.testBit 16 })

/-- SBC HL,p (R272): r is the 17-bit difference. -/
def sbc16 (a b : Word) (c : Bool) : Word × Flags :=
  let r := (a.toNat + 131072 - b.toNat - bitNat c) % 131072
  let res := BitVec.ofNat 16 r
  let x := a.toNat ^^^ b.toNat ^^^ r
  (res,
    { sf := res.getLsbD 15
      zf := decide (res = 0)
      yf := res.getLsbD 13
      hf := x.testBit 12
      xf := res.getLsbD 11
      pf := x.testBit 15 ^^ r.testBit 16
      nf := true
      cf := r.testBit 16 })

/-! ## Rotates and shifts: the result and the bit that goes to C -/

/-- The rotate and shift operations (30_encoding.md R98). -/
inductive RotOp where
  | rlc | rrc | rl | rr | sla | sra | sll | srl
  deriving DecidableEq, Repr

/-- The byte shifted left by one, with `low` as its bit 0. -/
def shl1 (v : Byte) (low : Bool) : Byte := v <<< 1 ||| bitAt low 0

/-- The byte shifted right by one, with `high` as its bit 7. -/
def shr1 (v : Byte) (high : Bool) : Byte := v >>> 1 ||| bitAt high 7

/-- `res` and `c` of R295 to R302; `c` is the carry before the instruction. -/
def rotate (op : RotOp) (v : Byte) (c : Bool) : Byte × Bool :=
  match op with
  | .rlc => (shl1 v (v.getLsbD 7), v.getLsbD 7)
  | .rrc => (shr1 v (v.getLsbD 0), v.getLsbD 0)
  | .rl => (shl1 v c, v.getLsbD 7)
  | .rr => (shr1 v c, v.getLsbD 0)
  | .sla => (shl1 v false, v.getLsbD 7)
  | .sra => (shr1 v (v.getLsbD 7), v.getLsbD 0)
  | .sll => (shl1 v true, v.getLsbD 7)
  | .srl => (shr1 v false, v.getLsbD 0)

/-- The common flag step of R295. -/
def rotFlags (res : Byte) (c : Bool) : Flags where
  sf := res.getLsbD 7
  zf := decide (res = 0)
  yf := res.getLsbD 5
  hf := false
  xf := res.getLsbD 3
  pf := parity res
  nf := false
  cf := c

/-- The flags of RLCA, RLA, RRCA and RRA (R290 to R293): S, Z and P unchanged. -/
def rotAFlags (res : Byte) (c : Bool) (f : Flags) : Flags :=
  { f with yf := res.getLsbD 5, hf := false, xf := res.getLsbD 3, nf := false, cf := c }

/-- The flags of RLD and RRD (R303, R304), of IN r,(C) and IN (C) (49_io.md R371, R372): from the byte `v`,
with C unchanged. -/
def inFlags (v : Byte) (f : Flags) : Flags where
  sf := v.getLsbD 7
  zf := decide (v = 0)
  yf := v.getLsbD 5
  hf := false
  xf := v.getLsbD 3
  pf := parity v
  nf := false
  cf := f.cf

/-- The flags of LD A,I and LD A,R (40_load8.md R149, R150). -/
def loadIrFlags (v : Byte) (iff2 : Bool) (f : Flags) : Flags where
  sf := v.getLsbD 7
  zf := decide (v = 0)
  yf := v.getLsbD 5
  hf := false
  xf := v.getLsbD 3
  pf := iff2
  nf := false
  cf := f.cf

/-- The flags of BIT b (R320). -/
def bitFlags (b : BitVec 3) (v : Byte) (f : Flags) : Flags :=
  let t := v.getLsbD b.toNat
  { sf := decide (b = 7) && t
    zf := !t
    yf := v.getLsbD 5
    hf := true
    xf := v.getLsbD 3
    pf := !t
    nf := false
    cf := f.cf }

/-- The byte with only bit `b` set. -/
def bitMask (b : BitVec 3) : Byte := BitVec.twoPow 8 b.toNat

/-! ## Block instructions -/

/-- The flags of LDI and LDD (R194, R196); `bc` is BC after its decrement. -/
def ldBlockFlags (a v : Byte) (bc : Word) (f : Flags) : Flags :=
  let n := a + v
  { f with yf := n.getLsbD 1, hf := false, xf := n.getLsbD 3, pf := decide (bc ≠ 0), nf := false }

/-- The flags of CPI and CPD (R198, R200); `bc` is BC after its decrement. -/
def cpBlockFlags (a v : Byte) (bc : Word) (f : Flags) : Flags :=
  let r := a - v
  let h := (a ^^^ v ^^^ r).getLsbD 4
  let n := r - bitAt h 0
  { sf := r.getLsbD 7
    zf := decide (r = 0)
    yf := n.getLsbD 1
    hf := h
    xf := n.getLsbD 3
    pf := decide (bc ≠ 0)
    nf := true
    cf := f.cf }

/-- The flags of a block I/O step (R376): `b` is B after its decrement, `v` the byte transferred, `k` the
9-bit sum of the instruction's rule. -/
def ioBlockFlags (b v : Byte) (k : Nat) : Flags where
  sf := b.getLsbD 7
  zf := decide (b = 0)
  yf := b.getLsbD 5
  hf := decide (k > 255)
  xf := b.getLsbD 3
  pf := parity (BitVec.ofNat 8 (k % 8) ^^^ b)
  nf := v.getLsbD 7
  cf := decide (k > 255)

end Sys2Proof.Machine
end

