-- ==== Sys2Proof/Machine/Alu16.lean ====
section
/-! DEFINITION. The 16-bit arithmetic (spec/45_alu16.md R270 to R274). -/

namespace Sys2Proof.Machine

/-- ADD IX,p and ADD IY,p (45_alu16.md R270). -/
def addIndex (x : Index) (p : XPair) (s : State) : State :=
  let r := add16 (s.regs.getIndex x) (s.regs.getXPair x p) s.flags
  (s.withRegs (s.regs.setIndex x r.1)).withFlags r.2

/-- A 16-bit result to HL and its flags (R270 to R272). -/
def toHl (r : Word × Flags) (s : State) : State := (s.withRegs (s.regs.setHl r.1)).withFlags r.2

/-- ADD HL,p (R270). -/
def execAddHlP (p : Pair) (s : State) : Result :=
  .next (charge (s.cost (.addHlP p) 11) (toHl (add16 s.regs.hl (s.regs.getPair p) s.flags) s))

/-- ADD IX,p (R270). -/
def execAddIxP (p : XPair) (s : State) : Result :=
  .next (charge (s.cost (.addIxP p) 15) (addIndex .ix p s))

/-- ADD IY,p (R270). -/
def execAddIyP (p : XPair) (s : State) : Result :=
  .next (charge (s.cost (.addIyP p) 15) (addIndex .iy p s))

/-- ADC HL,p (R271). -/
def execAdcHlP (p : Pair) (s : State) : Result :=
  .next (charge (s.cost (.adcHlP p) 15) (toHl (adc16 s.regs.hl (s.regs.getPair p) s.flags.cf) s))

/-- SBC HL,p (R272). -/
def execSbcHlP (p : Pair) (s : State) : Result :=
  .next (charge (s.cost (.sbcHlP p) 15) (toHl (sbc16 s.regs.hl (s.regs.getPair p) s.flags.cf) s))

/-- INC p (R273). -/
def execIncP (p : Pair) (s : State) : Result :=
  .next (charge (s.cost (.incP p) 6) (s.withRegs (s.regs.setPair p (s.regs.getPair p + 1))))

/-- INC IX (R273). -/
def execIncIx (s : State) : Result :=
  .next (charge (s.cost .incIx 10) (s.withRegs (s.regs.setIndex .ix (s.regs.ix + 1))))

/-- INC IY (R273). -/
def execIncIy (s : State) : Result :=
  .next (charge (s.cost .incIy 10) (s.withRegs (s.regs.setIndex .iy (s.regs.iy + 1))))

/-- DEC p (R274). -/
def execDecP (p : Pair) (s : State) : Result :=
  .next (charge (s.cost (.decP p) 6) (s.withRegs (s.regs.setPair p (s.regs.getPair p - 1))))

/-- DEC IX (R274). -/
def execDecIx (s : State) : Result :=
  .next (charge (s.cost .decIx 10) (s.withRegs (s.regs.setIndex .ix (s.regs.ix - 1))))

/-- DEC IY (R274). -/
def execDecIy (s : State) : Result :=
  .next (charge (s.cost .decIy 10) (s.withRegs (s.regs.setIndex .iy (s.regs.iy - 1))))

end Sys2Proof.Machine
end

