-- ==== Sys2Proof/Machine/Alu8.lean ====
section
/-! DEFINITION. The 8-bit arithmetic and logic (spec/43_alu8.md R220 to R234). -/

namespace Sys2Proof.Machine

/-! The eight operations on A (43_alu8.md R224 to R231). -/

/-- A result to A and its flags. -/
def toA (r : Byte × Flags) (s : State) : State := (s.setA r.1).withFlags r.2

/-- ADD (R224). -/
def addA (v : Byte) (s : State) : State := toA (add8 s.regs.a v false) s
/-- ADC (R225). -/
def adcA (v : Byte) (s : State) : State := toA (add8 s.regs.a v s.flags.cf) s
/-- SUB (R226). -/
def subA (v : Byte) (s : State) : State := toA (sub8 s.regs.a v false) s
/-- SBC (R227). -/
def sbcA (v : Byte) (s : State) : State := toA (sub8 s.regs.a v s.flags.cf) s
/-- AND (R228). -/
def andA (v : Byte) (s : State) : State := toA (s.regs.a &&& v, logic (s.regs.a &&& v) true) s
/-- XOR (R229). -/
def xorA (v : Byte) (s : State) : State := toA (s.regs.a ^^^ v, logic (s.regs.a ^^^ v) false) s
/-- OR (R230). -/
def orA (v : Byte) (s : State) : State := toA (s.regs.a ||| v, logic (s.regs.a ||| v) false) s
/-- CP (R231): A is not written. -/
def cpA (v : Byte) (s : State) : State := s.withFlags (cpFlags s.regs.a v)

/-! The operand forms (R220). -/

/-- On a register. -/
def onReg (op : Byte → State → State) (r : Reg8) (s : State) : State := op (s.regs.get8 r) s
/-- On an immediate. -/
def onImm (op : Byte → State → State) (n : Byte) (s : State) : State := op n s
/-- On an index half. -/
def onHalf (op : Byte → State → State) (x : Index) (h : Half) (s : State) : State :=
  op (s.regs.getHalf x h) s
/-- On the byte at `a`. -/
def onMem (op : Byte → State → State) (a : Word) (s : State) : State :=
  let m := memRead a s
  op m.1 m.2
/-- On (HL). -/
def onAtHl (op : Byte → State → State) (s : State) : State := onMem op s.regs.hl s
/-- On (IX+d) or (IY+d). -/
def onIndexed (op : Byte → State → State) (x : Index) (d : Byte) (s : State) : State :=
  onMem op (s.regs.indexed x d) s

/-- ADD A,s (R224). -/
def execAddS (r : Reg8) (s : State) : Result :=
  .next (charge (s.cost (.addS r) 4) (onReg addA r s))

/-- ADD A,(HL) (R224). -/
def execAddAtHl (s : State) : Result :=
  .next (charge (s.cost .addAtHl 7) (onAtHl addA s))

/-- ADD A,n (R224). -/
def execAddN (n : Byte) (s : State) : Result :=
  .next (charge (s.cost (.addN n) 7) (onImm addA n s))

/-- ADD A,IXh and ADD A,IXl (R224). -/
def execAddIxHalf (h : Half) (s : State) : Result :=
  .next (charge (s.cost (.addIxHalf h) 8) (onHalf addA .ix h s))

/-- ADD A,IYh and ADD A,IYl (R224). -/
def execAddIyHalf (h : Half) (s : State) : Result :=
  .next (charge (s.cost (.addIyHalf h) 8) (onHalf addA .iy h s))

/-- ADD A,(IX+d) (R224). -/
def execAddAtIx (d : Byte) (s : State) : Result :=
  .next (charge (s.cost (.addAtIx d) 19) (onIndexed addA .ix d s))

/-- ADD A,(IY+d) (R224). -/
def execAddAtIy (d : Byte) (s : State) : Result :=
  .next (charge (s.cost (.addAtIy d) 19) (onIndexed addA .iy d s))

/-- ADC A,s (R225). -/
def execAdcS (r : Reg8) (s : State) : Result :=
  .next (charge (s.cost (.adcS r) 4) (onReg adcA r s))

/-- ADC A,(HL) (R225). -/
def execAdcAtHl (s : State) : Result :=
  .next (charge (s.cost .adcAtHl 7) (onAtHl adcA s))

/-- ADC A,n (R225). -/
def execAdcN (n : Byte) (s : State) : Result :=
  .next (charge (s.cost (.adcN n) 7) (onImm adcA n s))

/-- ADC A,IXh and ADC A,IXl (R225). -/
def execAdcIxHalf (h : Half) (s : State) : Result :=
  .next (charge (s.cost (.adcIxHalf h) 8) (onHalf adcA .ix h s))

/-- ADC A,IYh and ADC A,IYl (R225). -/
def execAdcIyHalf (h : Half) (s : State) : Result :=
  .next (charge (s.cost (.adcIyHalf h) 8) (onHalf adcA .iy h s))

/-- ADC A,(IX+d) (R225). -/
def execAdcAtIx (d : Byte) (s : State) : Result :=
  .next (charge (s.cost (.adcAtIx d) 19) (onIndexed adcA .ix d s))

/-- ADC A,(IY+d) (R225). -/
def execAdcAtIy (d : Byte) (s : State) : Result :=
  .next (charge (s.cost (.adcAtIy d) 19) (onIndexed adcA .iy d s))

/-- SUB s (R226). -/
def execSubS (r : Reg8) (s : State) : Result :=
  .next (charge (s.cost (.subS r) 4) (onReg subA r s))

/-- SUB (HL) (R226). -/
def execSubAtHl (s : State) : Result :=
  .next (charge (s.cost .subAtHl 7) (onAtHl subA s))

/-- SUB n (R226). -/
def execSubN (n : Byte) (s : State) : Result :=
  .next (charge (s.cost (.subN n) 7) (onImm subA n s))

/-- SUB IXh and SUB IXl (R226). -/
def execSubIxHalf (h : Half) (s : State) : Result :=
  .next (charge (s.cost (.subIxHalf h) 8) (onHalf subA .ix h s))

/-- SUB IYh and SUB IYl (R226). -/
def execSubIyHalf (h : Half) (s : State) : Result :=
  .next (charge (s.cost (.subIyHalf h) 8) (onHalf subA .iy h s))

/-- SUB (IX+d) (R226). -/
def execSubAtIx (d : Byte) (s : State) : Result :=
  .next (charge (s.cost (.subAtIx d) 19) (onIndexed subA .ix d s))

/-- SUB (IY+d) (R226). -/
def execSubAtIy (d : Byte) (s : State) : Result :=
  .next (charge (s.cost (.subAtIy d) 19) (onIndexed subA .iy d s))

/-- SBC A,s (R227). -/
def execSbcS (r : Reg8) (s : State) : Result :=
  .next (charge (s.cost (.sbcS r) 4) (onReg sbcA r s))

/-- SBC A,(HL) (R227). -/
def execSbcAtHl (s : State) : Result :=
  .next (charge (s.cost .sbcAtHl 7) (onAtHl sbcA s))

/-- SBC A,n (R227). -/
def execSbcN (n : Byte) (s : State) : Result :=
  .next (charge (s.cost (.sbcN n) 7) (onImm sbcA n s))

/-- SBC A,IXh and SBC A,IXl (R227). -/
def execSbcIxHalf (h : Half) (s : State) : Result :=
  .next (charge (s.cost (.sbcIxHalf h) 8) (onHalf sbcA .ix h s))

/-- SBC A,IYh and SBC A,IYl (R227). -/
def execSbcIyHalf (h : Half) (s : State) : Result :=
  .next (charge (s.cost (.sbcIyHalf h) 8) (onHalf sbcA .iy h s))

/-- SBC A,(IX+d) (R227). -/
def execSbcAtIx (d : Byte) (s : State) : Result :=
  .next (charge (s.cost (.sbcAtIx d) 19) (onIndexed sbcA .ix d s))

/-- SBC A,(IY+d) (R227). -/
def execSbcAtIy (d : Byte) (s : State) : Result :=
  .next (charge (s.cost (.sbcAtIy d) 19) (onIndexed sbcA .iy d s))

/-- AND s (R228). -/
def execAndS (r : Reg8) (s : State) : Result :=
  .next (charge (s.cost (.andS r) 4) (onReg andA r s))

/-- AND (HL) (R228). -/
def execAndAtHl (s : State) : Result :=
  .next (charge (s.cost .andAtHl 7) (onAtHl andA s))

/-- AND n (R228). -/
def execAndN (n : Byte) (s : State) : Result :=
  .next (charge (s.cost (.andN n) 7) (onImm andA n s))

/-- AND IXh and AND IXl (R228). -/
def execAndIxHalf (h : Half) (s : State) : Result :=
  .next (charge (s.cost (.andIxHalf h) 8) (onHalf andA .ix h s))

/-- AND IYh and AND IYl (R228). -/
def execAndIyHalf (h : Half) (s : State) : Result :=
  .next (charge (s.cost (.andIyHalf h) 8) (onHalf andA .iy h s))

/-- AND (IX+d) (R228). -/
def execAndAtIx (d : Byte) (s : State) : Result :=
  .next (charge (s.cost (.andAtIx d) 19) (onIndexed andA .ix d s))

/-- AND (IY+d) (R228). -/
def execAndAtIy (d : Byte) (s : State) : Result :=
  .next (charge (s.cost (.andAtIy d) 19) (onIndexed andA .iy d s))

/-- XOR s (R229). -/
def execXorS (r : Reg8) (s : State) : Result :=
  .next (charge (s.cost (.xorS r) 4) (onReg xorA r s))

/-- XOR (HL) (R229). -/
def execXorAtHl (s : State) : Result :=
  .next (charge (s.cost .xorAtHl 7) (onAtHl xorA s))

/-- XOR n (R229). -/
def execXorN (n : Byte) (s : State) : Result :=
  .next (charge (s.cost (.xorN n) 7) (onImm xorA n s))

/-- XOR IXh and XOR IXl (R229). -/
def execXorIxHalf (h : Half) (s : State) : Result :=
  .next (charge (s.cost (.xorIxHalf h) 8) (onHalf xorA .ix h s))

/-- XOR IYh and XOR IYl (R229). -/
def execXorIyHalf (h : Half) (s : State) : Result :=
  .next (charge (s.cost (.xorIyHalf h) 8) (onHalf xorA .iy h s))

/-- XOR (IX+d) (R229). -/
def execXorAtIx (d : Byte) (s : State) : Result :=
  .next (charge (s.cost (.xorAtIx d) 19) (onIndexed xorA .ix d s))

/-- XOR (IY+d) (R229). -/
def execXorAtIy (d : Byte) (s : State) : Result :=
  .next (charge (s.cost (.xorAtIy d) 19) (onIndexed xorA .iy d s))

/-- OR s (R230). -/
def execOrS (r : Reg8) (s : State) : Result :=
  .next (charge (s.cost (.orS r) 4) (onReg orA r s))

/-- OR (HL) (R230). -/
def execOrAtHl (s : State) : Result :=
  .next (charge (s.cost .orAtHl 7) (onAtHl orA s))

/-- OR n (R230). -/
def execOrN (n : Byte) (s : State) : Result :=
  .next (charge (s.cost (.orN n) 7) (onImm orA n s))

/-- OR IXh and OR IXl (R230). -/
def execOrIxHalf (h : Half) (s : State) : Result :=
  .next (charge (s.cost (.orIxHalf h) 8) (onHalf orA .ix h s))

/-- OR IYh and OR IYl (R230). -/
def execOrIyHalf (h : Half) (s : State) : Result :=
  .next (charge (s.cost (.orIyHalf h) 8) (onHalf orA .iy h s))

/-- OR (IX+d) (R230). -/
def execOrAtIx (d : Byte) (s : State) : Result :=
  .next (charge (s.cost (.orAtIx d) 19) (onIndexed orA .ix d s))

/-- OR (IY+d) (R230). -/
def execOrAtIy (d : Byte) (s : State) : Result :=
  .next (charge (s.cost (.orAtIy d) 19) (onIndexed orA .iy d s))

/-- CP s (R231). -/
def execCpS (r : Reg8) (s : State) : Result :=
  .next (charge (s.cost (.cpS r) 4) (onReg cpA r s))

/-- CP (HL) (R231). -/
def execCpAtHl (s : State) : Result :=
  .next (charge (s.cost .cpAtHl 7) (onAtHl cpA s))

/-- CP n (R231). -/
def execCpN (n : Byte) (s : State) : Result :=
  .next (charge (s.cost (.cpN n) 7) (onImm cpA n s))

/-- CP IXh and CP IXl (R231). -/
def execCpIxHalf (h : Half) (s : State) : Result :=
  .next (charge (s.cost (.cpIxHalf h) 8) (onHalf cpA .ix h s))

/-- CP IYh and CP IYl (R231). -/
def execCpIyHalf (h : Half) (s : State) : Result :=
  .next (charge (s.cost (.cpIyHalf h) 8) (onHalf cpA .iy h s))

/-- CP (IX+d) (R231). -/
def execCpAtIx (d : Byte) (s : State) : Result :=
  .next (charge (s.cost (.cpAtIx d) 19) (onIndexed cpA .ix d s))

/-- CP (IY+d) (R231). -/
def execCpAtIy (d : Byte) (s : State) : Result :=
  .next (charge (s.cost (.cpAtIy d) 19) (onIndexed cpA .iy d s))

/-! INC m and DEC m (R232, R233). -/

/-- On a register. -/
def stepReg (op : Byte → Flags → Byte × Flags) (r : Reg8) (s : State) : State :=
  let x := op (s.regs.get8 r) s.flags
  (s.setReg8 r x.1).withFlags x.2
/-- On an index half. -/
def stepHalf (op : Byte → Flags → Byte × Flags) (x : Index) (h : Half) (s : State) : State :=
  let r := op (s.regs.getHalf x h) s.flags
  (s.withRegs (s.regs.setHalf x h r.1)).withFlags r.2
/-- On the byte at `a`: read, then written back. -/
def stepMem (op : Byte → Flags → Byte × Flags) (a : Word) (s : State) : State :=
  let m := memRead a s
  let r := op m.1 s.flags
  memWrite a r.1 (m.2.withFlags r.2)

/-- INC r (R232). -/
def execIncR (r : Reg8) (s : State) : Result :=
  .next (charge (s.cost (.incR r) 4) (stepReg inc8 r s))

/-- INC (HL) (R232). -/
def execIncAtHl (s : State) : Result :=
  .next (charge (s.cost .incAtHl 11) (stepMem inc8 s.regs.hl s))

/-- INC IXh (R232). -/
def execIncIxh (s : State) : Result :=
  .next (charge (s.cost .incIxh 8) (stepHalf inc8 .ix .hi s))

/-- INC IXl (R232). -/
def execIncIxl (s : State) : Result :=
  .next (charge (s.cost .incIxl 8) (stepHalf inc8 .ix .lo s))

/-- INC (IX+d) (R232). -/
def execIncAtIx (d : Byte) (s : State) : Result :=
  .next (charge (s.cost (.incAtIx d) 23) (stepMem inc8 (s.regs.indexed .ix d) s))

/-- INC IYh (R232). -/
def execIncIyh (s : State) : Result :=
  .next (charge (s.cost .incIyh 8) (stepHalf inc8 .iy .hi s))

/-- INC IYl (R232). -/
def execIncIyl (s : State) : Result :=
  .next (charge (s.cost .incIyl 8) (stepHalf inc8 .iy .lo s))

/-- INC (IY+d) (R232). -/
def execIncAtIy (d : Byte) (s : State) : Result :=
  .next (charge (s.cost (.incAtIy d) 23) (stepMem inc8 (s.regs.indexed .iy d) s))

/-- DEC r (R233). -/
def execDecR (r : Reg8) (s : State) : Result :=
  .next (charge (s.cost (.decR r) 4) (stepReg dec8 r s))

/-- DEC (HL) (R233). -/
def execDecAtHl (s : State) : Result :=
  .next (charge (s.cost .decAtHl 11) (stepMem dec8 s.regs.hl s))

/-- DEC IXh (R233). -/
def execDecIxh (s : State) : Result :=
  .next (charge (s.cost .decIxh 8) (stepHalf dec8 .ix .hi s))

/-- DEC IXl (R233). -/
def execDecIxl (s : State) : Result :=
  .next (charge (s.cost .decIxl 8) (stepHalf dec8 .ix .lo s))

/-- DEC (IX+d) (R233). -/
def execDecAtIx (d : Byte) (s : State) : Result :=
  .next (charge (s.cost (.decAtIx d) 23) (stepMem dec8 (s.regs.indexed .ix d) s))

/-- DEC IYh (R233). -/
def execDecIyh (s : State) : Result :=
  .next (charge (s.cost .decIyh 8) (stepHalf dec8 .iy .hi s))

/-- DEC IYl (R233). -/
def execDecIyl (s : State) : Result :=
  .next (charge (s.cost .decIyl 8) (stepHalf dec8 .iy .lo s))

/-- DEC (IY+d) (R233). -/
def execDecAtIy (d : Byte) (s : State) : Result :=
  .next (charge (s.cost (.decAtIy d) 23) (stepMem dec8 (s.regs.indexed .iy d) s))

end Sys2Proof.Machine
end

