-- ==== Sys2Proof/Machine/Bit.lean ====
section
/-! DEFINITION. BIT, SET and RES (spec/47_bit.md R320 to R322). -/

namespace Sys2Proof.Machine

/-- BIT b of the byte at `a`: nothing is written (47_bit.md R320). -/
def testMem (b : BitVec 3) (a : Word) (s : State) : State :=
  let m := memRead a s
  m.2.withFlags (bitFlags b m.1 s.flags)

/-- `v | 1 << b` (R321). -/
def setBit (b : BitVec 3) (v : Byte) : Byte := v ||| bitMask b

/-- `v & ~(1 << b)` (R322). -/
def clearBit (b : BitVec 3) (v : Byte) : Byte := v &&& ~~~bitMask b

/-- The byte at `a` changed by `f` and written back; the result and the state (46_rotate_shift.md R294). -/
def changeMem (f : Byte → Byte) (a : Word) (s : State) : Byte × State :=
  let m := memRead a s
  (f m.1, memWrite a (f m.1) m.2)

/-- SET or RES on a register. -/
def changeReg (f : Byte → Byte) (r : Reg8) (s : State) : State :=
  s.setReg8 r (f (s.regs.get8 r))

/-- SET or RES on (HL). -/
def changeAtHl (f : Byte → Byte) (s : State) : State := (changeMem f s.regs.hl s).2

/-- SET or RES on (IX+d) or (IY+d). -/
def changeIndexed (f : Byte → Byte) (x : Index) (d : Byte) (s : State) : State :=
  (changeMem f (s.regs.indexed x d) s).2

/-- SET or RES on (IX+d) or (IY+d), the result copied to a register as well (R294). -/
def changeIndexedCopy (f : Byte → Byte) (x : Index) (d : Byte) (r : Reg8) (s : State) : State :=
  let m := changeMem f (s.regs.indexed x d) s
  m.2.setReg8 r m.1

/-- BIT b,r (R320). -/
def execBitR (b : BitVec 3) (r : Reg8) (s : State) : Result :=
  .next (charge (s.cost (.bitR b r) 8) (s.withFlags (bitFlags b (s.regs.get8 r) s.flags)))

/-- BIT b,(HL) (R320). -/
def execBitAtHl (b : BitVec 3) (s : State) : Result :=
  .next (charge (s.cost (.bitAtHl b) 12) (testMem b s.regs.hl s))

/-- BIT b,(IX+d), for every z (R320). -/
def execBitAtIx (b : BitVec 3) (d : Byte) (z : BitVec 3) (s : State) : Result :=
  .next (charge (s.cost (.bitAtIx b d z) 20) (testMem b (s.regs.indexed .ix d) s))

/-- BIT b,(IY+d), for every z (R320). -/
def execBitAtIy (b : BitVec 3) (d : Byte) (z : BitVec 3) (s : State) : Result :=
  .next (charge (s.cost (.bitAtIy b d z) 20) (testMem b (s.regs.indexed .iy d) s))

/-- SET b,r (R321). -/
def execSetR (b : BitVec 3) (r : Reg8) (s : State) : Result :=
  .next (charge (s.cost (.setR b r) 8) (changeReg (setBit b) r s))

/-- SET b,(HL) (R321). -/
def execSetAtHl (b : BitVec 3) (s : State) : Result :=
  .next (charge (s.cost (.setAtHl b) 15) (changeAtHl (setBit b) s))

/-- SET b,(IX+d) (R321). -/
def execSetAtIx (b : BitVec 3) (d : Byte) (s : State) : Result :=
  .next (charge (s.cost (.setAtIx b d) 23) (changeIndexed (setBit b) .ix d s))

/-- SET b,(IX+d),r (R321). -/
def execSetAtIxR (b : BitVec 3) (d : Byte) (r : Reg8) (s : State) : Result :=
  .next (charge (s.cost (.setAtIxR b d r) 23) (changeIndexedCopy (setBit b) .ix d r s))

/-- SET b,(IY+d) (R321). -/
def execSetAtIy (b : BitVec 3) (d : Byte) (s : State) : Result :=
  .next (charge (s.cost (.setAtIy b d) 23) (changeIndexed (setBit b) .iy d s))

/-- SET b,(IY+d),r (R321). -/
def execSetAtIyR (b : BitVec 3) (d : Byte) (r : Reg8) (s : State) : Result :=
  .next (charge (s.cost (.setAtIyR b d r) 23) (changeIndexedCopy (setBit b) .iy d r s))

/-- RES b,r (R322). -/
def execResR (b : BitVec 3) (r : Reg8) (s : State) : Result :=
  .next (charge (s.cost (.resR b r) 8) (changeReg (clearBit b) r s))

/-- RES b,(HL) (R322). -/
def execResAtHl (b : BitVec 3) (s : State) : Result :=
  .next (charge (s.cost (.resAtHl b) 15) (changeAtHl (clearBit b) s))

/-- RES b,(IX+d) (R322). -/
def execResAtIx (b : BitVec 3) (d : Byte) (s : State) : Result :=
  .next (charge (s.cost (.resAtIx b d) 23) (changeIndexed (clearBit b) .ix d s))

/-- RES b,(IX+d),r (R322). -/
def execResAtIxR (b : BitVec 3) (d : Byte) (r : Reg8) (s : State) : Result :=
  .next (charge (s.cost (.resAtIxR b d r) 23) (changeIndexedCopy (clearBit b) .ix d r s))

/-- RES b,(IY+d) (R322). -/
def execResAtIy (b : BitVec 3) (d : Byte) (s : State) : Result :=
  .next (charge (s.cost (.resAtIy b d) 23) (changeIndexed (clearBit b) .iy d s))

/-- RES b,(IY+d),r (R322). -/
def execResAtIyR (b : BitVec 3) (d : Byte) (r : Reg8) (s : State) : Result :=
  .next (charge (s.cost (.resAtIyR b d r) 23) (changeIndexedCopy (clearBit b) .iy d r s))

end Sys2Proof.Machine
end

