-- ==== Sys2Proof/Machine/Block.lean ====
section
/-! DEFINITION. Block transfer and block search, one step of each (spec/42_exchange_block.md R194 to R201). -/

namespace Sys2Proof.Machine

/-- The end of one step of a repeating block instruction: where it repeats, PC goes back by 2 and the first of
the two counts is charged, else the second (42_exchange_block.md R195; 49_io.md R378). -/
def repeatIf (taken other : Nat) (again : Bool) (s : State) : State :=
  if again then charge taken (setPc (s.pc - 2) s) else charge other s

/-- One step of LDI (`step` is 1) or LDD (`step` is -1) (R194, R196). -/
def ldBlock (step : Word) (s : State) : State :=
  let m := memRead s.regs.hl s
  let s1 := memWrite s.regs.de m.1 m.2
  let bc := s.regs.bc - 1
  let g := ((s.regs.setHl (s.regs.hl + step)).setDe (s.regs.de + step)).setBc bc
  (s1.withRegs g).withFlags (ldBlockFlags s.regs.a m.1 bc s.flags)

/-- One step of CPI (`step` is 1) or CPD (`step` is -1) (R198, R200). -/
def cpBlock (step : Word) (s : State) : State :=
  let m := memRead s.regs.hl s
  let bc := s.regs.bc - 1
  let g := (s.regs.setHl (s.regs.hl + step)).setBc bc
  (m.2.withRegs g).withFlags (cpBlockFlags s.regs.a m.1 bc s.flags)

/-- The condition on which LDIR and LDDR repeat, after the step (R195, R197). -/
def ldRepeats (s : State) : Bool := decide (s.regs.bc ≠ 0)

/-- The condition on which CPIR and CPDR repeat, after the step (R199, R201). -/
def cpRepeats (s : State) : Bool := decide (s.regs.bc ≠ 0) && !s.flags.zf

/-- LDI (R194). -/
def execLdi (s : State) : Result :=
  .next (charge (s.cost .ldi 16) (ldBlock 1 s))

/-- LDIR (R195). -/
def execLdir (s : State) : Result :=
  let s1 := ldBlock 1 s
  .next (repeatIf (s.cost .ldir 21) (s.costNot .ldir 16) (ldRepeats s1) s1)

/-- LDD (R196). -/
def execLdd (s : State) : Result :=
  .next (charge (s.cost .ldd 16) (ldBlock (-1) s))

/-- LDDR (R197). -/
def execLddr (s : State) : Result :=
  let s1 := ldBlock (-1) s
  .next (repeatIf (s.cost .lddr 21) (s.costNot .lddr 16) (ldRepeats s1) s1)

/-- CPI (R198). -/
def execCpi (s : State) : Result :=
  .next (charge (s.cost .cpi 16) (cpBlock 1 s))

/-- CPIR (R199). -/
def execCpir (s : State) : Result :=
  let s1 := cpBlock 1 s
  .next (repeatIf (s.cost .cpir 21) (s.costNot .cpir 16) (cpRepeats s1) s1)

/-- CPD (R200). -/
def execCpd (s : State) : Result :=
  .next (charge (s.cost .cpd 16) (cpBlock (-1) s))

/-- CPDR (R201). -/
def execCpdr (s : State) : Result :=
  let s1 := cpBlock (-1) s
  .next (repeatIf (s.cost .cpdr 21) (s.costNot .cpdr 16) (cpRepeats s1) s1)

end Sys2Proof.Machine
end

