-- ==== Sys2Proof/Machine/Exchange.lean ====
section
/-! DEFINITION. The exchanges (spec/42_exchange_block.md R190 to R193). -/

namespace Sys2Proof.Machine

/-- The word at the top of the stack exchanged with `v`: read SP, read SP+1, write SP+1, write SP
(42_exchange_block.md R193). -/
def exchangeTop (v : Word) (s : State) : Word × State :=
  let sp := s.regs.sp
  let r := readWord .exRead sp s
  (r.1, writeAs true sp (loByte v) (writeAs (highNotifies s .exWrite) (sp + 1) (hiByte v) r.2))

/-- EX (SP) with IX or IY (R193). -/
def exchangeIndex (x : Index) (s : State) : State :=
  let r := exchangeTop (s.regs.getIndex x) s
  r.2.withRegs (r.2.regs.setIndex x r.1)

/-- EX DE,HL (R190). -/
def execExDeHl (s : State) : Result :=
  .next (charge (s.cost .exDeHl 4) (s.withRegs ((s.regs.setDe s.regs.hl).setHl s.regs.de)))

/-- EX AF,AF' (R191). -/
def execExAfAf (s : State) : Result :=
  .next (charge (s.cost .exAfAf 4)
    ((s.withRegs { s.regs with a := s.regs.aAlt, aAlt := s.regs.a, fAlt := s.flags.pack }).withFlags
      (Flags.unpack s.regs.fAlt)))

/-- EXX (R192). -/
def execExx (s : State) : Result :=
  .next (charge (s.cost .exx 4)
    (s.withRegs
      { s.regs with
        b := s.regs.bAlt
        c := s.regs.cAlt
        d := s.regs.dAlt
        e := s.regs.eAlt
        h := s.regs.hAlt
        l := s.regs.lAlt
        bAlt := s.regs.b
        cAlt := s.regs.c
        dAlt := s.regs.d
        eAlt := s.regs.e
        hAlt := s.regs.h
        lAlt := s.regs.l }))

/-- EX (SP),HL (R193). -/
def execExAtSpHl (s : State) : Result :=
  let r := exchangeTop s.regs.hl s
  .next (charge (s.cost .exAtSpHl 19) (r.2.withRegs (r.2.regs.setHl r.1)))

/-- EX (SP),IX (R193). -/
def execExAtSpIx (s : State) : Result :=
  .next (charge (s.cost .exAtSpIx 23) (exchangeIndex .ix s))

/-- EX (SP),IY (R193). -/
def execExAtSpIy (s : State) : Result :=
  .next (charge (s.cost .exAtSpIy 23) (exchangeIndex .iy s))

end Sys2Proof.Machine
end

