-- ==== Sys2Proof/Machine/General.lean ====
section
/-! DEFINITION. DAA, CPL, NEG, CCF, SCF, NOP, HALT, DI, EI, IM and the undefined ED opcodes (spec/44_general.md R250 to R262). -/

namespace Sys2Proof.Machine

/-- DAA (R250). -/
def execDaa (s : State) : Result :=
  let r := daa s.regs.a s.flags
  .next (charge (s.cost .daa 4) ((s.setA r.1).withFlags r.2))

/-- CPL (R251): S, Z, P and C unchanged. -/
def execCpl (s : State) : Result :=
  let v := s.regs.a ^^^ 0xFF
  .next (charge (s.cost .cpl 4) ((s.setA v).withFlags
    { s.flags with yf := v.getLsbD 5, hf := true, xf := v.getLsbD 3, nf := true }))

/-- NEG, every encoding (R252). -/
def execNeg (x : BitVec 3) (s : State) : Result :=
  let r := sub8 0 s.regs.a false
  .next (charge (s.cost (.neg x) 8) ((s.setA r.1).withFlags r.2))

/-- CCF (R253). -/
def execCcf (s : State) : Result :=
  .next (charge (s.cost .ccf 4) (s.withFlags
    { s.flags with
      yf := s.regs.a.getLsbD 5
      hf := s.flags.cf
      xf := s.regs.a.getLsbD 3
      nf := false
      cf := !s.flags.cf }))

/-- SCF (R254). -/
def execScf (s : State) : Result :=
  .next (charge (s.cost .scf 4) (s.withFlags
    { s.flags with
      yf := s.regs.a.getLsbD 5
      hf := false
      xf := s.regs.a.getLsbD 3
      nf := false
      cf := true }))

/-- NOP (R255). -/
def execNop (s : State) : Result :=
  .next (charge (s.cost .nop 4) s)

/-- HALT (R256). -/
def execHalt (s : State) : Result :=
  .next (charge (s.cost .halt 4) { s with halted := true })

/-- DI (R257). -/
def execDi (s : State) : Result :=
  .next (charge (s.cost .di 4) { s with iff1 := false, iff2 := false, eidi := true })

/-- EI (R258). -/
def execEi (s : State) : Result :=
  .next (charge (s.cost .ei 4) { s with iff1 := true, iff2 := true, eidi := true })

/-- IM 0, every encoding (R259). -/
def execIm0 (x1 x0 : Bool) (s : State) : Result :=
  .next (charge (s.cost (.im0 x1 x0) 8) { s with im := .im0 })

/-- IM 1, every encoding (R260). -/
def execIm1 (x1 : Bool) (s : State) : Result :=
  .next (charge (s.cost (.im1 x1) 8) { s with im := .im1 })

/-- IM 2, every encoding (R261). -/
def execIm2 (x1 : Bool) (s : State) : Result :=
  .next (charge (s.cost (.im2 x1) 8) { s with im := .im2 })

/-- An undefined ED opcode (R262). -/
def execNopEd (op : Byte) (s : State) : Result :=
  .next (charge (s.cost (.nopEd op) 8) s)

end Sys2Proof.Machine
end

