-- ==== Sys2Proof/Machine/Io.lean ====
section
/-! DEFINITION. Input and output, block I/O included (spec/49_io.md R370 to R384). -/

namespace Sys2Proof.Machine

/-- One step of INI (`step` is 1) or IND (`step` is -1) (49_io.md R377, R379). -/
def inBlock (step : Word) (s : State) : State :=
  let g := s.regs
  let r := ioRead g.bc s
  let b := g.b - 1
  let k := r.1.toNat + (g.c + loByte step).toNat
  ((memWrite g.hl r.1 r.2).withRegs ({ g with b := b }.setHl (g.hl + step))).withFlags (ioBlockFlags b r.1 k)

/-- One step of OUTI (`step` is 1) or OUTD (`step` is -1): B is decremented before the port is written
(R381, R383). -/
def outBlock (step : Word) (s : State) : State :=
  let g := s.regs
  let m := memRead g.hl s
  let b := g.b - 1
  let hl := g.hl + step
  let k := m.1.toNat + (loByte hl).toNat
  ((ioWrite (mkWord b g.c) m.1 m.2).withRegs ({ g with b := b }.setHl hl)).withFlags (ioBlockFlags b m.1 k)

/-- The condition on which INIR, INDR, OTIR and OTDR repeat, after the step (R378). -/
def ioRepeats (s : State) : Bool := decide (s.regs.b ≠ 0)

/-- IN A,(n) (R370). -/
def execInAN (n : Byte) (s : State) : Result :=
  let r := ioRead (s.portAN n) s
  .next (charge (s.cost (.inAN n) 11) (r.2.setA r.1))

/-- IN r,(C) (R371). -/
def execInRC (r : Reg8) (s : State) : Result :=
  let v := ioRead s.regs.bc s
  .next (charge (s.cost (.inRC r) 12) ((v.2.setReg8 r v.1).withFlags (inFlags v.1 s.flags)))

/-- IN (C): flags only (R372). -/
def execInC (s : State) : Result :=
  let v := ioRead s.regs.bc s
  .next (charge (s.cost .inC 12) (v.2.withFlags (inFlags v.1 s.flags)))

/-- OUT (n),A (R373). -/
def execOutNA (n : Byte) (s : State) : Result :=
  .next (charge (s.cost (.outNA n) 11) (ioWrite (s.portAN n) s.regs.a s))

/-- OUT (C),r (R374). -/
def execOutCR (r : Reg8) (s : State) : Result :=
  .next (charge (s.cost (.outCR r) 12) (ioWrite s.regs.bc (s.regs.get8 r) s))

/-- OUT (C),0 (R375). -/
def execOutC0 (s : State) : Result :=
  .next (charge (s.cost .outC0 12) (ioWrite s.regs.bc 0x00 s))

/-- INI (R377). -/
def execIni (s : State) : Result :=
  .next (charge (s.cost .ini 16) (inBlock 1 s))

/-- INIR (R378). -/
def execInir (s : State) : Result :=
  let s1 := inBlock 1 s
  .next (repeatIf (s.cost .inir 21) (s.costNot .inir 16) (ioRepeats s1) s1)

/-- IND (R379). -/
def execInd (s : State) : Result :=
  .next (charge (s.cost .ind 16) (inBlock (-1) s))

/-- INDR (R380). -/
def execIndr (s : State) : Result :=
  let s1 := inBlock (-1) s
  .next (repeatIf (s.cost .indr 21) (s.costNot .indr 16) (ioRepeats s1) s1)

/-- OUTI (R381). -/
def execOuti (s : State) : Result :=
  .next (charge (s.cost .outi 16) (outBlock 1 s))

/-- OTIR (R382). -/
def execOtir (s : State) : Result :=
  let s1 := outBlock 1 s
  .next (repeatIf (s.cost .otir 21) (s.costNot .otir 16) (ioRepeats s1) s1)

/-- OUTD (R383). -/
def execOutd (s : State) : Result :=
  .next (charge (s.cost .outd 16) (outBlock (-1) s))

/-- OTDR (R384). -/
def execOtdr (s : State) : Result :=
  let s1 := outBlock (-1) s
  .next (repeatIf (s.cost .otdr 21) (s.costNot .otdr 16) (ioRepeats s1) s1)

end Sys2Proof.Machine
end

