-- ==== Sys2Proof/Machine/Jump.lean ====
section
/-! DEFINITION. Jumps, calls and returns (spec/48_jump_call_return.md R340 to R352). -/

namespace Sys2Proof.Machine

/-- PC moved by a displacement (48_jump_call_return.md R342). -/
def jumpRelative (e : Byte) (s : State) : State := setPc (s.pc + sext16 e) s

/-- `Push16(PC); PC <- a` (R346, R352). -/
def callTo (a : Word) (s : State) : State := setPc a (push16 s.pc s)

/-- JP nn (R340). -/
def execJp (nn : Word) (s : State) : Result :=
  .next (charge (s.cost (.jp nn) 10) (setPc nn s))

/-- JP cc,nn (R341). -/
def execJpC (cc : Cond) (nn : Word) (s : State) : Result :=
  .next (charge (s.cost (.jpC cc nn) 10) (if s.flags.cond cc then setPc nn s else s))

/-- JR e (R342). -/
def execJr (e : Byte) (s : State) : Result :=
  .next (charge (s.cost (.jr e) 12) (jumpRelative e s))

/-- JR cc,e (R343). -/
def execJrC (cc : JrCond) (e : Byte) (s : State) : Result :=
  .next
    (if s.flags.jrCond cc then charge (s.cost (.jrC cc e) 12) (jumpRelative e s)
    else charge (s.costNot (.jrC cc e) 7) s)

/-- JP (HL) (R344). -/
def execJpHl (s : State) : Result :=
  .next (charge (s.cost .jpHl 4) (setPc s.regs.hl s))

/-- JP (IX) (R344). -/
def execJpIx (s : State) : Result :=
  .next (charge (s.cost .jpIx 8) (setPc s.regs.ix s))

/-- JP (IY) (R344). -/
def execJpIy (s : State) : Result :=
  .next (charge (s.cost .jpIy 8) (setPc s.regs.iy s))

/-- DJNZ e (R345). -/
def execDjnz (e : Byte) (s : State) : Result :=
  let b := s.regs.b - 1
  let s1 := s.setReg8 .b b
  .next
    (if b ≠ 0 then charge (s.cost (.djnz e) 13) (jumpRelative e s1)
    else charge (s.costNot (.djnz e) 8) s1)

/-- CALL nn (R346). -/
def execCall (nn : Word) (s : State) : Result :=
  .next (charge (s.cost (.call nn) 17) (callTo nn s))

/-- CALL cc,nn (R347). -/
def execCallC (cc : Cond) (nn : Word) (s : State) : Result :=
  .next
    (if s.flags.cond cc then charge (s.cost (.callC cc nn) 17) (callTo nn s)
    else charge (s.costNot (.callC cc nn) 10) s)

/-- RET (R348). -/
def execRet (s : State) : Result :=
  .next (charge (s.cost .ret 10) (returnFromCall s))

/-- RET cc (R349). -/
def execRetC (cc : Cond) (s : State) : Result :=
  .next
    (if s.flags.cond cc then charge (s.cost (.retC cc) 11) (returnFromCall s)
    else charge (s.costNot (.retC cc) 5) s)

/-- RETI (R350, 60_exceptions.md R415). -/
def execReti (s : State) : Result :=
  .next (charge (s.cost .reti 14) (finishService (returnFromInterrupt s)))

/-- RETN, every encoding (R351). -/
def execRetn (x : BitVec 3) (s : State) : Result :=
  .next (charge (s.cost (.retn x) 14) (returnFromInterrupt s))

/-- RST t (R352). -/
def execRst (k : BitVec 3) (s : State) : Result :=
  .next (charge (s.cost (.rst k) 11) (callTo (BitVec.ofNat 16 (8 * k.toNat)) s))

end Sys2Proof.Machine
end

