-- ==== Sys2Proof/Machine/Load16.lean ====
section
/-! DEFINITION. The 16-bit loads, PUSH and POP (spec/41_load16.md R170 to R177). -/

namespace Sys2Proof.Machine

/-- A pair loaded from the word at `nn` (41_load16.md R171, R172). -/
def loadPair (p : Pair) (nn : Word) (s : State) : State :=
  let r := readWord .load nn s
  r.2.withRegs (r.2.regs.setPair p r.1)

/-- IX or IY loaded from the word at `nn` (R171). -/
def loadIndex (x : Index) (nn : Word) (s : State) : State :=
  let r := readWord .load nn s
  r.2.withRegs (r.2.regs.setIndex x r.1)

/-- IX or IY popped (R177). -/
def popIndex (x : Index) (s : State) : State :=
  let r := pop16 s
  r.2.withRegs (r.2.regs.setIndex x r.1)

/-- LD p,nn (R170). -/
def execLdPNn (p : Pair) (nn : Word) (s : State) : Result :=
  .next (charge (s.cost (.ldPNn p nn) 10) (s.withRegs (s.regs.setPair p nn)))

/-- LD IX,nn (R170). -/
def execLdIxNn (nn : Word) (s : State) : Result :=
  .next (charge (s.cost (.ldIxNn nn) 14) (s.withRegs (s.regs.setIndex .ix nn)))

/-- LD IY,nn (R170). -/
def execLdIyNn (nn : Word) (s : State) : Result :=
  .next (charge (s.cost (.ldIyNn nn) 14) (s.withRegs (s.regs.setIndex .iy nn)))

/-- LD HL,(nn) (R171). -/
def execLdHlAtNn (nn : Word) (s : State) : Result :=
  .next (charge (s.cost (.ldHlAtNn nn) 16) (loadPair .hl nn s))

/-- LD IX,(nn) (R171). -/
def execLdIxAtNn (nn : Word) (s : State) : Result :=
  .next (charge (s.cost (.ldIxAtNn nn) 20) (loadIndex .ix nn s))

/-- LD IY,(nn) (R171). -/
def execLdIyAtNn (nn : Word) (s : State) : Result :=
  .next (charge (s.cost (.ldIyAtNn nn) 20) (loadIndex .iy nn s))

/-- LD p,(nn) (R172). -/
def execLdPAtNn (p : Pair) (nn : Word) (s : State) : Result :=
  .next (charge (s.cost (.ldPAtNn p nn) 20) (loadPair p nn s))

/-- LD (nn),HL (R173). -/
def execLdAtNnHl (nn : Word) (s : State) : Result :=
  .next (charge (s.cost (.ldAtNnHl nn) 16) (writeWord .store nn s.regs.hl s))

/-- LD (nn),IX (R173). -/
def execLdAtNnIx (nn : Word) (s : State) : Result :=
  .next (charge (s.cost (.ldAtNnIx nn) 20) (writeWord .store nn s.regs.ix s))

/-- LD (nn),IY (R173). -/
def execLdAtNnIy (nn : Word) (s : State) : Result :=
  .next (charge (s.cost (.ldAtNnIy nn) 20) (writeWord .store nn s.regs.iy s))

/-- LD (nn),p (R174). -/
def execLdAtNnP (p : Pair) (nn : Word) (s : State) : Result :=
  .next (charge (s.cost (.ldAtNnP p nn) 20) (writeWord .store nn (s.regs.getPair p) s))

/-- LD SP,HL (R175). -/
def execLdSpHl (s : State) : Result :=
  .next (charge (s.cost .ldSpHl 6) (setSp s.regs.hl s))

/-- LD SP,IX (R175). -/
def execLdSpIx (s : State) : Result :=
  .next (charge (s.cost .ldSpIx 10) (setSp s.regs.ix s))

/-- LD SP,IY (R175). -/
def execLdSpIy (s : State) : Result :=
  .next (charge (s.cost .ldSpIy 10) (setSp s.regs.iy s))

/-- PUSH q (R176). -/
def execPushQ (q : StackPair) (s : State) : Result :=
  .next (charge (s.cost (.pushQ q) 11) (push16 (s.getStackPair q) s))

/-- PUSH IX (R176). -/
def execPushIx (s : State) : Result :=
  .next (charge (s.cost .pushIx 15) (push16 s.regs.ix s))

/-- PUSH IY (R176). -/
def execPushIy (s : State) : Result :=
  .next (charge (s.cost .pushIy 15) (push16 s.regs.iy s))

/-- POP q (R177). -/
def execPopQ (q : StackPair) (s : State) : Result :=
  .next (charge (s.cost (.popQ q) 10) ((pop16 s).2.setStackPair q (pop16 s).1))

/-- POP IX (R177). -/
def execPopIx (s : State) : Result :=
  .next (charge (s.cost .popIx 14) (popIndex .ix s))

/-- POP IY (R177). -/
def execPopIy (s : State) : Result :=
  .next (charge (s.cost .popIy 14) (popIndex .iy s))

end Sys2Proof.Machine
end

