-- ==== Sys2Proof/Machine/Load8.lean ====
section
/-! DEFINITION. The 8-bit loads (spec/40_load8.md R140 to R152). -/

namespace Sys2Proof.Machine

/-- LD r,r2 in index context (40_load8.md R140). -/
def loadX8 (x : Index) (r r2 : XReg8) (s : State) : State :=
  s.withRegs (s.regs.setX8 x r (s.regs.getX8 x r2))

/-- LD of an immediate into an index half (R141). -/
def loadHalf (x : Index) (h : Half) (n : Byte) (s : State) : State :=
  s.withRegs (s.regs.setHalf x h n)

/-- LD r from the byte at `a` (R142). -/
def loadFrom (a : Word) (r : Reg8) (s : State) : State :=
  let m := memRead a s
  m.2.setReg8 r m.1

/-- LD A from the byte at `a` (R145, R146). -/
def loadAFrom (a : Word) (s : State) : State := loadFrom a .a s

/-- LD A with a special register, setting the flags from it and from IFF2 (R149, R150). -/
def loadSpecial (v : Byte) (s : State) : State :=
  (s.setA v).withFlags (loadIrFlags v s.iff2 s.flags)

/-- The value of R (10_state.md R28). -/
def refresh (s : State) : Byte := bitAt s.rbit7 7 ||| s.rlo7.setWidth 8

/-- R written, bit 7 included (R28). -/
def setRefresh (v : Byte) (s : State) : State := { s with rlo7 := v.setWidth 7, rbit7 := v.getLsbD 7 }

/-- LD r,s (R140). -/
def execLdRS (r r2 : Reg8) (s : State) : Result :=
  .next (charge (s.cost (.ldRS r r2) 4) (s.setReg8 r (s.regs.get8 r2)))

/-- LD r,s with IXh or IXl (R140). -/
def execLdRSIx (r r2 : XReg8) (s : State) : Result :=
  .next (charge (s.cost (.ldRSIx r r2) 8) (loadX8 .ix r r2 s))

/-- LD r,s with IYh or IYl (R140). -/
def execLdRSIy (r r2 : XReg8) (s : State) : Result :=
  .next (charge (s.cost (.ldRSIy r r2) 8) (loadX8 .iy r r2 s))

/-- LD r,n (R141). -/
def execLdRN (r : Reg8) (n : Byte) (s : State) : Result :=
  .next (charge (s.cost (.ldRN r n) 7) (s.setReg8 r n))

/-- LD IXh,n (R141). -/
def execLdIxhN (n : Byte) (s : State) : Result :=
  .next (charge (s.cost (.ldIxhN n) 11) (loadHalf .ix .hi n s))

/-- LD IXl,n (R141). -/
def execLdIxlN (n : Byte) (s : State) : Result :=
  .next (charge (s.cost (.ldIxlN n) 11) (loadHalf .ix .lo n s))

/-- LD IYh,n (R141). -/
def execLdIyhN (n : Byte) (s : State) : Result :=
  .next (charge (s.cost (.ldIyhN n) 11) (loadHalf .iy .hi n s))

/-- LD IYl,n (R141). -/
def execLdIylN (n : Byte) (s : State) : Result :=
  .next (charge (s.cost (.ldIylN n) 11) (loadHalf .iy .lo n s))

/-- LD r,(HL) (R142). -/
def execLdRAtHl (r : Reg8) (s : State) : Result :=
  .next (charge (s.cost (.ldRAtHl r) 7) (loadFrom s.regs.hl r s))

/-- LD r,(IX+d) (R142). -/
def execLdRAtIx (r : Reg8) (d : Byte) (s : State) : Result :=
  .next (charge (s.cost (.ldRAtIx r d) 19) (loadFrom (s.regs.indexed .ix d) r s))

/-- LD r,(IY+d) (R142). -/
def execLdRAtIy (r : Reg8) (d : Byte) (s : State) : Result :=
  .next (charge (s.cost (.ldRAtIy r d) 19) (loadFrom (s.regs.indexed .iy d) r s))

/-- LD (HL),s (R143). -/
def execLdAtHlS (r : Reg8) (s : State) : Result :=
  .next (charge (s.cost (.ldAtHlS r) 7) (memWrite s.regs.hl (s.regs.get8 r) s))

/-- LD (IX+d),s (R143). -/
def execLdAtIxS (d : Byte) (r : Reg8) (s : State) : Result :=
  .next (charge (s.cost (.ldAtIxS d r) 19) (memWrite (s.regs.indexed .ix d) (s.regs.get8 r) s))

/-- LD (IY+d),s (R143). -/
def execLdAtIyS (d : Byte) (r : Reg8) (s : State) : Result :=
  .next (charge (s.cost (.ldAtIyS d r) 19) (memWrite (s.regs.indexed .iy d) (s.regs.get8 r) s))

/-- LD (HL),n (R144). -/
def execLdAtHlN (n : Byte) (s : State) : Result :=
  .next (charge (s.cost (.ldAtHlN n) 10) (memWrite s.regs.hl n s))

/-- LD (IX+d),n (R144). -/
def execLdAtIxN (d n : Byte) (s : State) : Result :=
  .next (charge (s.cost (.ldAtIxN d n) 19) (memWrite (s.regs.indexed .ix d) n s))

/-- LD (IY+d),n (R144). -/
def execLdAtIyN (d n : Byte) (s : State) : Result :=
  .next (charge (s.cost (.ldAtIyN d n) 19) (memWrite (s.regs.indexed .iy d) n s))

/-- LD A,(BC) and LD A,(DE) (R145). -/
def execLdAAtPp (p : PtrPair) (s : State) : Result :=
  .next (charge (s.cost (.ldAAtPp p) 7) (loadAFrom (s.regs.getPtr p) s))

/-- LD A,(nn) (R146). -/
def execLdAAtNn (nn : Word) (s : State) : Result :=
  .next (charge (s.cost (.ldAAtNn nn) 13) (loadAFrom nn s))

/-- LD (BC),A and LD (DE),A (R147). -/
def execLdAtPpA (p : PtrPair) (s : State) : Result :=
  .next (charge (s.cost (.ldAtPpA p) 7) (memWrite (s.regs.getPtr p) s.regs.a s))

/-- LD (nn),A (R148). -/
def execLdAtNnA (nn : Word) (s : State) : Result :=
  .next (charge (s.cost (.ldAtNnA nn) 13) (memWrite nn s.regs.a s))

/-- LD A,I (R149). -/
def execLdAI (s : State) : Result :=
  .next (charge (s.cost .ldAI 9) (loadSpecial s.i s))

/-- LD A,R (R150): the value includes the increments of its own two fetches. -/
def execLdAR (s : State) : Result :=
  .next (charge (s.cost .ldAR 9) (loadSpecial (refresh s) s))

/-- LD I,A (R151). -/
def execLdIA (s : State) : Result :=
  .next (charge (s.cost .ldIA 9) { s with i := s.regs.a })

/-- LD R,A (R152). -/
def execLdRA (s : State) : Result :=
  .next (charge (s.cost .ldRA 9) (setRefresh s.regs.a s))

end Sys2Proof.Machine
end

