-- ==== Sys2Proof/Machine/Rotate.lean ====
section
/-! DEFINITION. The rotates and shifts (spec/46_rotate_shift.md R290 to R304). -/

namespace Sys2Proof.Machine

/-- RLCA, RLA, RRCA and RRA (46_rotate_shift.md R290 to R293). -/
def rotateA (op : RotOp) (s : State) : State :=
  let r := rotate op s.regs.a s.flags.cf
  (s.setA r.1).withFlags (rotAFlags r.1 r.2 s.flags)

/-- On a register (R294). -/
def rotateReg (op : RotOp) (r : Reg8) (s : State) : State :=
  let x := rotate op (s.regs.get8 r) s.flags.cf
  (s.setReg8 r x.1).withFlags (rotFlags x.1 x.2)

/-- On the byte at `a`, written back; the result and the state (R294). -/
def rotateMem (op : RotOp) (a : Word) (s : State) : Byte × State :=
  let m := memRead a s
  let x := rotate op m.1 s.flags.cf
  (x.1, memWrite a x.1 (m.2.withFlags (rotFlags x.1 x.2)))

/-- On (HL). -/
def rotateAtHl (op : RotOp) (s : State) : State := (rotateMem op s.regs.hl s).2

/-- On (IX+d) or (IY+d). -/
def rotateIndexed (op : RotOp) (x : Index) (d : Byte) (s : State) : State :=
  (rotateMem op (s.regs.indexed x d) s).2

/-- On (IX+d) or (IY+d), the result copied to a register as well (R294). -/
def rotateIndexedCopy (op : RotOp) (x : Index) (d : Byte) (r : Reg8) (s : State) : State :=
  let m := rotateMem op (s.regs.indexed x d) s
  m.2.setReg8 r m.1

/-- RLCA (R290). -/
def execRlca (s : State) : Result :=
  .next (charge (s.cost .rlca 4) (rotateA .rlc s))

/-- RLA (R291). -/
def execRla (s : State) : Result :=
  .next (charge (s.cost .rla 4) (rotateA .rl s))

/-- RRCA (R292). -/
def execRrca (s : State) : Result :=
  .next (charge (s.cost .rrca 4) (rotateA .rrc s))

/-- RRA (R293). -/
def execRra (s : State) : Result :=
  .next (charge (s.cost .rra 4) (rotateA .rr s))

/-- RLC r (R295). -/
def execRlcR (r : Reg8) (s : State) : Result :=
  .next (charge (s.cost (.rlcR r) 8) (rotateReg .rlc r s))

/-- RLC (HL) (R295). -/
def execRlcAtHl (s : State) : Result :=
  .next (charge (s.cost .rlcAtHl 15) (rotateAtHl .rlc s))

/-- RLC (IX+d) (R295). -/
def execRlcAtIx (d : Byte) (s : State) : Result :=
  .next (charge (s.cost (.rlcAtIx d) 23) (rotateIndexed .rlc .ix d s))

/-- RLC (IX+d),r (R295). -/
def execRlcAtIxR (d : Byte) (r : Reg8) (s : State) : Result :=
  .next (charge (s.cost (.rlcAtIxR d r) 23) (rotateIndexedCopy .rlc .ix d r s))

/-- RLC (IY+d) (R295). -/
def execRlcAtIy (d : Byte) (s : State) : Result :=
  .next (charge (s.cost (.rlcAtIy d) 23) (rotateIndexed .rlc .iy d s))

/-- RLC (IY+d),r (R295). -/
def execRlcAtIyR (d : Byte) (r : Reg8) (s : State) : Result :=
  .next (charge (s.cost (.rlcAtIyR d r) 23) (rotateIndexedCopy .rlc .iy d r s))

/-- RRC r (R296). -/
def execRrcR (r : Reg8) (s : State) : Result :=
  .next (charge (s.cost (.rrcR r) 8) (rotateReg .rrc r s))

/-- RRC (HL) (R296). -/
def execRrcAtHl (s : State) : Result :=
  .next (charge (s.cost .rrcAtHl 15) (rotateAtHl .rrc s))

/-- RRC (IX+d) (R296). -/
def execRrcAtIx (d : Byte) (s : State) : Result :=
  .next (charge (s.cost (.rrcAtIx d) 23) (rotateIndexed .rrc .ix d s))

/-- RRC (IX+d),r (R296). -/
def execRrcAtIxR (d : Byte) (r : Reg8) (s : State) : Result :=
  .next (charge (s.cost (.rrcAtIxR d r) 23) (rotateIndexedCopy .rrc .ix d r s))

/-- RRC (IY+d) (R296). -/
def execRrcAtIy (d : Byte) (s : State) : Result :=
  .next (charge (s.cost (.rrcAtIy d) 23) (rotateIndexed .rrc .iy d s))

/-- RRC (IY+d),r (R296). -/
def execRrcAtIyR (d : Byte) (r : Reg8) (s : State) : Result :=
  .next (charge (s.cost (.rrcAtIyR d r) 23) (rotateIndexedCopy .rrc .iy d r s))

/-- RL r (R297). -/
def execRlR (r : Reg8) (s : State) : Result :=
  .next (charge (s.cost (.rlR r) 8) (rotateReg .rl r s))

/-- RL (HL) (R297). -/
def execRlAtHl (s : State) : Result :=
  .next (charge (s.cost .rlAtHl 15) (rotateAtHl .rl s))

/-- RL (IX+d) (R297). -/
def execRlAtIx (d : Byte) (s : State) : Result :=
  .next (charge (s.cost (.rlAtIx d) 23) (rotateIndexed .rl .ix d s))

/-- RL (IX+d),r (R297). -/
def execRlAtIxR (d : Byte) (r : Reg8) (s : State) : Result :=
  .next (charge (s.cost (.rlAtIxR d r) 23) (rotateIndexedCopy .rl .ix d r s))

/-- RL (IY+d) (R297). -/
def execRlAtIy (d : Byte) (s : State) : Result :=
  .next (charge (s.cost (.rlAtIy d) 23) (rotateIndexed .rl .iy d s))

/-- RL (IY+d),r (R297). -/
def execRlAtIyR (d : Byte) (r : Reg8) (s : State) : Result :=
  .next (charge (s.cost (.rlAtIyR d r) 23) (rotateIndexedCopy .rl .iy d r s))

/-- RR r (R298). -/
def execRrR (r : Reg8) (s : State) : Result :=
  .next (charge (s.cost (.rrR r) 8) (rotateReg .rr r s))

/-- RR (HL) (R298). -/
def execRrAtHl (s : State) : Result :=
  .next (charge (s.cost .rrAtHl 15) (rotateAtHl .rr s))

/-- RR (IX+d) (R298). -/
def execRrAtIx (d : Byte) (s : State) : Result :=
  .next (charge (s.cost (.rrAtIx d) 23) (rotateIndexed .rr .ix d s))

/-- RR (IX+d),r (R298). -/
def execRrAtIxR (d : Byte) (r : Reg8) (s : State) : Result :=
  .next (charge (s.cost (.rrAtIxR d r) 23) (rotateIndexedCopy .rr .ix d r s))

/-- RR (IY+d) (R298). -/
def execRrAtIy (d : Byte) (s : State) : Result :=
  .next (charge (s.cost (.rrAtIy d) 23) (rotateIndexed .rr .iy d s))

/-- RR (IY+d),r (R298). -/
def execRrAtIyR (d : Byte) (r : Reg8) (s : State) : Result :=
  .next (charge (s.cost (.rrAtIyR d r) 23) (rotateIndexedCopy .rr .iy d r s))

/-- SLA r (R299). -/
def execSlaR (r : Reg8) (s : State) : Result :=
  .next (charge (s.cost (.slaR r) 8) (rotateReg .sla r s))

/-- SLA (HL) (R299). -/
def execSlaAtHl (s : State) : Result :=
  .next (charge (s.cost .slaAtHl 15) (rotateAtHl .sla s))

/-- SLA (IX+d) (R299). -/
def execSlaAtIx (d : Byte) (s : State) : Result :=
  .next (charge (s.cost (.slaAtIx d) 23) (rotateIndexed .sla .ix d s))

/-- SLA (IX+d),r (R299). -/
def execSlaAtIxR (d : Byte) (r : Reg8) (s : State) : Result :=
  .next (charge (s.cost (.slaAtIxR d r) 23) (rotateIndexedCopy .sla .ix d r s))

/-- SLA (IY+d) (R299). -/
def execSlaAtIy (d : Byte) (s : State) : Result :=
  .next (charge (s.cost (.slaAtIy d) 23) (rotateIndexed .sla .iy d s))

/-- SLA (IY+d),r (R299). -/
def execSlaAtIyR (d : Byte) (r : Reg8) (s : State) : Result :=
  .next (charge (s.cost (.slaAtIyR d r) 23) (rotateIndexedCopy .sla .iy d r s))

/-- SRA r (R300). -/
def execSraR (r : Reg8) (s : State) : Result :=
  .next (charge (s.cost (.sraR r) 8) (rotateReg .sra r s))

/-- SRA (HL) (R300). -/
def execSraAtHl (s : State) : Result :=
  .next (charge (s.cost .sraAtHl 15) (rotateAtHl .sra s))

/-- SRA (IX+d) (R300). -/
def execSraAtIx (d : Byte) (s : State) : Result :=
  .next (charge (s.cost (.sraAtIx d) 23) (rotateIndexed .sra .ix d s))

/-- SRA (IX+d),r (R300). -/
def execSraAtIxR (d : Byte) (r : Reg8) (s : State) : Result :=
  .next (charge (s.cost (.sraAtIxR d r) 23) (rotateIndexedCopy .sra .ix d r s))

/-- SRA (IY+d) (R300). -/
def execSraAtIy (d : Byte) (s : State) : Result :=
  .next (charge (s.cost (.sraAtIy d) 23) (rotateIndexed .sra .iy d s))

/-- SRA (IY+d),r (R300). -/
def execSraAtIyR (d : Byte) (r : Reg8) (s : State) : Result :=
  .next (charge (s.cost (.sraAtIyR d r) 23) (rotateIndexedCopy .sra .iy d r s))

/-- SLL r (R301). -/
def execSllR (r : Reg8) (s : State) : Result :=
  .next (charge (s.cost (.sllR r) 8) (rotateReg .sll r s))

/-- SLL (HL) (R301). -/
def execSllAtHl (s : State) : Result :=
  .next (charge (s.cost .sllAtHl 15) (rotateAtHl .sll s))

/-- SLL (IX+d) (R301). -/
def execSllAtIx (d : Byte) (s : State) : Result :=
  .next (charge (s.cost (.sllAtIx d) 23) (rotateIndexed .sll .ix d s))

/-- SLL (IX+d),r (R301). -/
def execSllAtIxR (d : Byte) (r : Reg8) (s : State) : Result :=
  .next (charge (s.cost (.sllAtIxR d r) 23) (rotateIndexedCopy .sll .ix d r s))

/-- SLL (IY+d) (R301). -/
def execSllAtIy (d : Byte) (s : State) : Result :=
  .next (charge (s.cost (.sllAtIy d) 23) (rotateIndexed .sll .iy d s))

/-- SLL (IY+d),r (R301). -/
def execSllAtIyR (d : Byte) (r : Reg8) (s : State) : Result :=
  .next (charge (s.cost (.sllAtIyR d r) 23) (rotateIndexedCopy .sll .iy d r s))

/-- SRL r (R302). -/
def execSrlR (r : Reg8) (s : State) : Result :=
  .next (charge (s.cost (.srlR r) 8) (rotateReg .srl r s))

/-- SRL (HL) (R302). -/
def execSrlAtHl (s : State) : Result :=
  .next (charge (s.cost .srlAtHl 15) (rotateAtHl .srl s))

/-- SRL (IX+d) (R302). -/
def execSrlAtIx (d : Byte) (s : State) : Result :=
  .next (charge (s.cost (.srlAtIx d) 23) (rotateIndexed .srl .ix d s))

/-- SRL (IX+d),r (R302). -/
def execSrlAtIxR (d : Byte) (r : Reg8) (s : State) : Result :=
  .next (charge (s.cost (.srlAtIxR d r) 23) (rotateIndexedCopy .srl .ix d r s))

/-- SRL (IY+d) (R302). -/
def execSrlAtIy (d : Byte) (s : State) : Result :=
  .next (charge (s.cost (.srlAtIy d) 23) (rotateIndexed .srl .iy d s))

/-- SRL (IY+d),r (R302). -/
def execSrlAtIyR (d : Byte) (r : Reg8) (s : State) : Result :=
  .next (charge (s.cost (.srlAtIyR d r) 23) (rotateIndexedCopy .srl .iy d r s))

/-- The end of RLD and RRD: A and the flags from it (R303, R304). -/
def digitResult (v : Byte) (s : State) : State := (s.setA v).withFlags (inFlags v s.flags)

/-- RLD (R303). -/
def execRld (s : State) : Result :=
  let m := memRead s.regs.hl s
  let a := s.regs.a
  .next (charge (s.cost .rld 18)
    (digitResult ((a &&& 0xF0) ||| (m.1 >>> 4))
      (memWrite s.regs.hl ((m.1 <<< 4) ||| (a &&& 0x0F)) m.2)))

/-- RRD (R304). -/
def execRrd (s : State) : Result :=
  let m := memRead s.regs.hl s
  let a := s.regs.a
  .next (charge (s.cost .rrd 18)
    (digitResult ((a &&& 0xF0) ||| (m.1 &&& 0x0F))
      (memWrite s.regs.hl ((a <<< 4) ||| (m.1 >>> 4)) m.2)))

end Sys2Proof.Machine
end

