-- ==== Sys2Proof/Machine/Prefix.lean ====
section
/-! DEFINITION. The prefix rows of the opcode table: the ignored prefix (spec/30_encoding.md R105), the
prefix-chain steps (R106), and the prefix bytes alone, after which decoding goes on in their page (R102,
R107, R108, R109, R111). -/

namespace Sys2Proof.Machine

/-- `ExecBase(op, None)` (R111): the meanings of the base page. A term that is not a base-page instruction
has none; the decoder gives none here (60_exceptions.md R400). -/
def execBaseRow (i : Instr) (s : State) : Result :=
  match i with
  | .nop => execNop s
  | .ldPNn p nn => execLdPNn p nn s
  | .ldAtPpA p => execLdAtPpA p s
  | .incP p => execIncP p s
  | .incR r => execIncR r s
  | .incAtHl => execIncAtHl s
  | .decR r => execDecR r s
  | .decAtHl => execDecAtHl s
  | .ldRN r n => execLdRN r n s
  | .ldAtHlN n => execLdAtHlN n s
  | .rlca => execRlca s
  | .exAfAf => execExAfAf s
  | .addHlP p => execAddHlP p s
  | .ldAAtPp p => execLdAAtPp p s
  | .decP p => execDecP p s
  | .rrca => execRrca s
  | .djnz e => execDjnz e s
  | .rla => execRla s
  | .jr e => execJr e s
  | .rra => execRra s
  | .jrC cc e => execJrC cc e s
  | .ldAtNnHl nn => execLdAtNnHl nn s
  | .daa => execDaa s
  | .ldHlAtNn nn => execLdHlAtNn nn s
  | .cpl => execCpl s
  | .ldAtNnA nn => execLdAtNnA nn s
  | .scf => execScf s
  | .ldAAtNn nn => execLdAAtNn nn s
  | .ccf => execCcf s
  | .ldRS r r2 => execLdRS r r2 s
  | .ldRAtHl r => execLdRAtHl r s
  | .ldAtHlS r => execLdAtHlS r s
  | .halt => execHalt s
  | .addS r => execAddS r s
  | .addAtHl => execAddAtHl s
  | .addN n => execAddN n s
  | .adcS r => execAdcS r s
  | .adcAtHl => execAdcAtHl s
  | .adcN n => execAdcN n s
  | .subS r => execSubS r s
  | .subAtHl => execSubAtHl s
  | .subN n => execSubN n s
  | .sbcS r => execSbcS r s
  | .sbcAtHl => execSbcAtHl s
  | .sbcN n => execSbcN n s
  | .andS r => execAndS r s
  | .andAtHl => execAndAtHl s
  | .andN n => execAndN n s
  | .xorS r => execXorS r s
  | .xorAtHl => execXorAtHl s
  | .xorN n => execXorN n s
  | .orS r => execOrS r s
  | .orAtHl => execOrAtHl s
  | .orN n => execOrN n s
  | .cpS r => execCpS r s
  | .cpAtHl => execCpAtHl s
  | .cpN n => execCpN n s
  | .retC cc => execRetC cc s
  | .popQ q => execPopQ q s
  | .jpC cc nn => execJpC cc nn s
  | .jp nn => execJp nn s
  | .callC cc nn => execCallC cc nn s
  | .pushQ q => execPushQ q s
  | .rst k => execRst k s
  | .ret => execRet s
  | .call nn => execCall nn s
  | .outNA n => execOutNA n s
  | .exx => execExx s
  | .inAN n => execInAN n s
  | .exAtSpHl => execExAtSpHl s
  | .jpHl => execJpHl s
  | .exDeHl => execExDeHl s
  | .di => execDi s
  | .ldSpHl => execLdSpHl s
  | .ei => execEi s
  | _ => .fault .internalConsistencyFailure

/-! ## The ignored prefix (R105) -/

/-- DD before an opcode that it does not change: the prefix adds its own T-states. -/
def execDdIgnored (base : Instr) (s : State) : Result :=
  execBaseRow base (charge (s.cost (.ddIgnored base) 4) s)

/-- FD before an opcode that it does not change: the prefix adds its own T-states. -/
def execFdIgnored (base : Instr) (s : State) : Result :=
  execBaseRow base (charge (s.cost (.fdIgnored base) 4) s)

/-! ## Prefix-chain steps (R106) -/

/-- A prefix followed by a prefix: the next iteration takes no interrupt. -/
def chainStep (s : State) : State := { s with afterPrefix := true }

/-- DD before DD (R106). -/
def execDdThenDd (s : State) : Result :=
  .next (charge (s.cost .ddThenDd 4) (chainStep s))

/-- DD before FD (R106). -/
def execDdThenFd (s : State) : Result :=
  .next (charge (s.cost .ddThenFd 4) (chainStep s))

/-- DD before ED (R106). -/
def execDdThenEd (s : State) : Result :=
  .next (charge (s.cost .ddThenEd 4) (chainStep s))

/-- FD before DD (R106). -/
def execFdThenDd (s : State) : Result :=
  .next (charge (s.cost .fdThenDd 4) (chainStep s))

/-- FD before FD (R106). -/
def execFdThenFd (s : State) : Result :=
  .next (charge (s.cost .fdThenFd 4) (chainStep s))

/-- FD before ED (R106). -/
def execFdThenEd (s : State) : Result :=
  .next (charge (s.cost .fdThenEd 4) (chainStep s))

/-! ## A prefix alone: decoding goes on after it (R111) -/

/-- The meanings of every row but the prefix rows. -/
def execRow (i : Instr) (s : State) : Result :=
  match i with
  | .rlcR r => execRlcR r s
  | .rlcAtHl => execRlcAtHl s
  | .rrcR r => execRrcR r s
  | .rrcAtHl => execRrcAtHl s
  | .rlR r => execRlR r s
  | .rlAtHl => execRlAtHl s
  | .rrR r => execRrR r s
  | .rrAtHl => execRrAtHl s
  | .slaR r => execSlaR r s
  | .slaAtHl => execSlaAtHl s
  | .sraR r => execSraR r s
  | .sraAtHl => execSraAtHl s
  | .sllR r => execSllR r s
  | .sllAtHl => execSllAtHl s
  | .srlR r => execSrlR r s
  | .srlAtHl => execSrlAtHl s
  | .bitR b r => execBitR b r s
  | .bitAtHl b => execBitAtHl b s
  | .resR b r => execResR b r s
  | .resAtHl b => execResAtHl b s
  | .setR b r => execSetR b r s
  | .setAtHl b => execSetAtHl b s
  | .inRC r => execInRC r s
  | .inC => execInC s
  | .outCR r => execOutCR r s
  | .outC0 => execOutC0 s
  | .sbcHlP p => execSbcHlP p s
  | .adcHlP p => execAdcHlP p s
  | .ldAtNnP p nn => execLdAtNnP p nn s
  | .ldPAtNn p nn => execLdPAtNn p nn s
  | .neg x => execNeg x s
  | .retn x => execRetn x s
  | .reti => execReti s
  | .im0 x1 x0 => execIm0 x1 x0 s
  | .im1 x1 => execIm1 x1 s
  | .im2 x1 => execIm2 x1 s
  | .ldIA => execLdIA s
  | .ldRA => execLdRA s
  | .ldAI => execLdAI s
  | .ldAR => execLdAR s
  | .rrd => execRrd s
  | .rld => execRld s
  | .ldi => execLdi s
  | .cpi => execCpi s
  | .ini => execIni s
  | .outi => execOuti s
  | .ldd => execLdd s
  | .cpd => execCpd s
  | .ind => execInd s
  | .outd => execOutd s
  | .ldir => execLdir s
  | .cpir => execCpir s
  | .inir => execInir s
  | .otir => execOtir s
  | .lddr => execLddr s
  | .cpdr => execCpdr s
  | .indr => execIndr s
  | .otdr => execOtdr s
  | .nopEd op => execNopEd op s
  | .addIxP p => execAddIxP p s
  | .ldIxNn nn => execLdIxNn nn s
  | .ldAtNnIx nn => execLdAtNnIx nn s
  | .incIx => execIncIx s
  | .incIxh => execIncIxh s
  | .decIxh => execDecIxh s
  | .ldIxhN n => execLdIxhN n s
  | .ldIxAtNn nn => execLdIxAtNn nn s
  | .decIx => execDecIx s
  | .incIxl => execIncIxl s
  | .decIxl => execDecIxl s
  | .ldIxlN n => execLdIxlN n s
  | .incAtIx d => execIncAtIx d s
  | .decAtIx d => execDecAtIx d s
  | .ldAtIxN d n => execLdAtIxN d n s
  | .ldRSIx r r2 => execLdRSIx r r2 s
  | .ldRAtIx r d => execLdRAtIx r d s
  | .ldAtIxS d r => execLdAtIxS d r s
  | .addIxHalf h => execAddIxHalf h s
  | .addAtIx d => execAddAtIx d s
  | .adcIxHalf h => execAdcIxHalf h s
  | .adcAtIx d => execAdcAtIx d s
  | .subIxHalf h => execSubIxHalf h s
  | .subAtIx d => execSubAtIx d s
  | .sbcIxHalf h => execSbcIxHalf h s
  | .sbcAtIx d => execSbcAtIx d s
  | .andIxHalf h => execAndIxHalf h s
  | .andAtIx d => execAndAtIx d s
  | .xorIxHalf h => execXorIxHalf h s
  | .xorAtIx d => execXorAtIx d s
  | .orIxHalf h => execOrIxHalf h s
  | .orAtIx d => execOrAtIx d s
  | .cpIxHalf h => execCpIxHalf h s
  | .cpAtIx d => execCpAtIx d s
  | .popIx => execPopIx s
  | .exAtSpIx => execExAtSpIx s
  | .pushIx => execPushIx s
  | .jpIx => execJpIx s
  | .ldSpIx => execLdSpIx s
  | .ddThenDd => execDdThenDd s
  | .ddThenFd => execDdThenFd s
  | .ddThenEd => execDdThenEd s
  | .ddIgnored base => execDdIgnored base s
  | .addIyP p => execAddIyP p s
  | .ldIyNn nn => execLdIyNn nn s
  | .ldAtNnIy nn => execLdAtNnIy nn s
  | .incIy => execIncIy s
  | .incIyh => execIncIyh s
  | .decIyh => execDecIyh s
  | .ldIyhN n => execLdIyhN n s
  | .ldIyAtNn nn => execLdIyAtNn nn s
  | .decIy => execDecIy s
  | .incIyl => execIncIyl s
  | .decIyl => execDecIyl s
  | .ldIylN n => execLdIylN n s
  | .incAtIy d => execIncAtIy d s
  | .decAtIy d => execDecAtIy d s
  | .ldAtIyN d n => execLdAtIyN d n s
  | .ldRSIy r r2 => execLdRSIy r r2 s
  | .ldRAtIy r d => execLdRAtIy r d s
  | .ldAtIyS d r => execLdAtIyS d r s
  | .addIyHalf h => execAddIyHalf h s
  | .addAtIy d => execAddAtIy d s
  | .adcIyHalf h => execAdcIyHalf h s
  | .adcAtIy d => execAdcAtIy d s
  | .subIyHalf h => execSubIyHalf h s
  | .subAtIy d => execSubAtIy d s
  | .sbcIyHalf h => execSbcIyHalf h s
  | .sbcAtIy d => execSbcAtIy d s
  | .andIyHalf h => execAndIyHalf h s
  | .andAtIy d => execAndAtIy d s
  | .xorIyHalf h => execXorIyHalf h s
  | .xorAtIy d => execXorAtIy d s
  | .orIyHalf h => execOrIyHalf h s
  | .orAtIy d => execOrAtIy d s
  | .cpIyHalf h => execCpIyHalf h s
  | .cpAtIy d => execCpAtIy d s
  | .popIy => execPopIy s
  | .exAtSpIy => execExAtSpIy s
  | .pushIy => execPushIy s
  | .jpIy => execJpIy s
  | .ldSpIy => execLdSpIy s
  | .fdThenDd => execFdThenDd s
  | .fdThenFd => execFdThenFd s
  | .fdThenEd => execFdThenEd s
  | .fdIgnored base => execFdIgnored base s
  | .rlcAtIx d => execRlcAtIx d s
  | .rlcAtIxR d r => execRlcAtIxR d r s
  | .rrcAtIx d => execRrcAtIx d s
  | .rrcAtIxR d r => execRrcAtIxR d r s
  | .rlAtIx d => execRlAtIx d s
  | .rlAtIxR d r => execRlAtIxR d r s
  | .rrAtIx d => execRrAtIx d s
  | .rrAtIxR d r => execRrAtIxR d r s
  | .slaAtIx d => execSlaAtIx d s
  | .slaAtIxR d r => execSlaAtIxR d r s
  | .sraAtIx d => execSraAtIx d s
  | .sraAtIxR d r => execSraAtIxR d r s
  | .sllAtIx d => execSllAtIx d s
  | .sllAtIxR d r => execSllAtIxR d r s
  | .srlAtIx d => execSrlAtIx d s
  | .srlAtIxR d r => execSrlAtIxR d r s
  | .bitAtIx b d z => execBitAtIx b d z s
  | .resAtIx b d => execResAtIx b d s
  | .resAtIxR b d r => execResAtIxR b d r s
  | .setAtIx b d => execSetAtIx b d s
  | .setAtIxR b d r => execSetAtIxR b d r s
  | .rlcAtIy d => execRlcAtIy d s
  | .rlcAtIyR d r => execRlcAtIyR d r s
  | .rrcAtIy d => execRrcAtIy d s
  | .rrcAtIyR d r => execRrcAtIyR d r s
  | .rlAtIy d => execRlAtIy d s
  | .rlAtIyR d r => execRlAtIyR d r s
  | .rrAtIy d => execRrAtIy d s
  | .rrAtIyR d r => execRrAtIyR d r s
  | .slaAtIy d => execSlaAtIy d s
  | .slaAtIyR d r => execSlaAtIyR d r s
  | .sraAtIy d => execSraAtIy d s
  | .sraAtIyR d r => execSraAtIyR d r s
  | .sllAtIy d => execSllAtIy d s
  | .sllAtIyR d r => execSllAtIyR d r s
  | .srlAtIy d => execSrlAtIy d s
  | .srlAtIyR d r => execSrlAtIyR d r s
  | .bitAtIy b d z => execBitAtIy b d z s
  | .resAtIy b d => execResAtIy b d s
  | .resAtIyR b d r => execResAtIyR b d r s
  | .setAtIy b d => execSetAtIy b d s
  | .setAtIyR b d r => execSetAtIyR b d r s
  | i => execBaseRow i s

/-- The prefix bytes `pfx` have been fetched: the rest of the instruction is decoded from PC, fetched and
executed (R111; log 12). -/
def continueDecode (pfx : List Byte) (s : State) : Result :=
  match decode (pfx ++ window s s.pc 3) with
  | .ok i _ => execRow i (fetchCode pfx.length i.code s)
  | .error _ => .fault .internalConsistencyFailure

/-- The CB page (R109). -/
def execPrefixCb (s : State) : Result := continueDecode [0xCB] s

/-- The DD page (R102, R120). -/
def execPrefixDd (s : State) : Result := continueDecode [0xDD] s

/-- The ED page (R108). -/
def execPrefixEd (s : State) : Result := continueDecode [0xED] s

/-- The FD page (R102, R120). -/
def execPrefixFd (s : State) : Result := continueDecode [0xFD] s

/-- The DDCB page (R107). -/
def execPrefixDdCb (s : State) : Result := continueDecode [0xDD, 0xCB] s

/-- The FDCB page (R107). -/
def execPrefixFdCb (s : State) : Result := continueDecode [0xFD, 0xCB] s

end Sys2Proof.Machine
end

