-- ==== Sys2Proof/Machine/Dispatch.lean ====
section
/-! DEFINITION. One arm per constructor of Instr, each one call of that instruction's meaning. -/

namespace Sys2Proof.Machine

def exec (i : Instr) (s : State) : Host.Outcome State Fault Refusal :=
  match i with
  -- the base page
  | .nop => Sys2Proof.Machine.execNop s
  | .ldPNn p nn => Sys2Proof.Machine.execLdPNn p nn s
  | .ldAtPpA p => Sys2Proof.Machine.execLdAtPpA p s
  | .incP p => Sys2Proof.Machine.execIncP p s
  | .incR r => Sys2Proof.Machine.execIncR r s
  | .incAtHl => Sys2Proof.Machine.execIncAtHl s
  | .decR r => Sys2Proof.Machine.execDecR r s
  | .decAtHl => Sys2Proof.Machine.execDecAtHl s
  | .ldRN r n => Sys2Proof.Machine.execLdRN r n s
  | .ldAtHlN n => Sys2Proof.Machine.execLdAtHlN n s
  | .rlca => Sys2Proof.Machine.execRlca s
  | .exAfAf => Sys2Proof.Machine.execExAfAf s
  | .addHlP p => Sys2Proof.Machine.execAddHlP p s
  | .ldAAtPp p => Sys2Proof.Machine.execLdAAtPp p s
  | .decP p => Sys2Proof.Machine.execDecP p s
  | .rrca => Sys2Proof.Machine.execRrca s
  | .djnz e => Sys2Proof.Machine.execDjnz e s
  | .rla => Sys2Proof.Machine.execRla s
  | .jr e => Sys2Proof.Machine.execJr e s
  | .rra => Sys2Proof.Machine.execRra s
  | .jrC cc e => Sys2Proof.Machine.execJrC cc e s
  | .ldAtNnHl nn => Sys2Proof.Machine.execLdAtNnHl nn s
  | .daa => Sys2Proof.Machine.execDaa s
  | .ldHlAtNn nn => Sys2Proof.Machine.execLdHlAtNn nn s
  | .cpl => Sys2Proof.Machine.execCpl s
  | .ldAtNnA nn => Sys2Proof.Machine.execLdAtNnA nn s
  | .scf => Sys2Proof.Machine.execScf s
  | .ldAAtNn nn => Sys2Proof.Machine.execLdAAtNn nn s
  | .ccf => Sys2Proof.Machine.execCcf s
  | .ldRS r r2 => Sys2Proof.Machine.execLdRS r r2 s
  | .ldRAtHl r => Sys2Proof.Machine.execLdRAtHl r s
  | .ldAtHlS r => Sys2Proof.Machine.execLdAtHlS r s
  | .halt => Sys2Proof.Machine.execHalt s
  | .addS r => Sys2Proof.Machine.execAddS r s
  | .addAtHl => Sys2Proof.Machine.execAddAtHl s
  | .addN n => Sys2Proof.Machine.execAddN n s
  | .adcS r => Sys2Proof.Machine.execAdcS r s
  | .adcAtHl => Sys2Proof.Machine.execAdcAtHl s
  | .adcN n => Sys2Proof.Machine.execAdcN n s
  | .subS r => Sys2Proof.Machine.execSubS r s
  | .subAtHl => Sys2Proof.Machine.execSubAtHl s
  | .subN n => Sys2Proof.Machine.execSubN n s
  | .sbcS r => Sys2Proof.Machine.execSbcS r s
  | .sbcAtHl => Sys2Proof.Machine.execSbcAtHl s
  | .sbcN n => Sys2Proof.Machine.execSbcN n s
  | .andS r => Sys2Proof.Machine.execAndS r s
  | .andAtHl => Sys2Proof.Machine.execAndAtHl s
  | .andN n => Sys2Proof.Machine.execAndN n s
  | .xorS r => Sys2Proof.Machine.execXorS r s
  | .xorAtHl => Sys2Proof.Machine.execXorAtHl s
  | .xorN n => Sys2Proof.Machine.execXorN n s
  | .orS r => Sys2Proof.Machine.execOrS r s
  | .orAtHl => Sys2Proof.Machine.execOrAtHl s
  | .orN n => Sys2Proof.Machine.execOrN n s
  | .cpS r => Sys2Proof.Machine.execCpS r s
  | .cpAtHl => Sys2Proof.Machine.execCpAtHl s
  | .cpN n => Sys2Proof.Machine.execCpN n s
  | .retC cc => Sys2Proof.Machine.execRetC cc s
  | .popQ q => Sys2Proof.Machine.execPopQ q s
  | .jpC cc nn => Sys2Proof.Machine.execJpC cc nn s
  | .jp nn => Sys2Proof.Machine.execJp nn s
  | .callC cc nn => Sys2Proof.Machine.execCallC cc nn s
  | .pushQ q => Sys2Proof.Machine.execPushQ q s
  | .rst k => Sys2Proof.Machine.execRst k s
  | .ret => Sys2Proof.Machine.execRet s
  | .prefixCb => Sys2Proof.Machine.execPrefixCb s
  | .call nn => Sys2Proof.Machine.execCall nn s
  | .outNA n => Sys2Proof.Machine.execOutNA n s
  | .exx => Sys2Proof.Machine.execExx s
  | .inAN n => Sys2Proof.Machine.execInAN n s
  | .prefixDd => Sys2Proof.Machine.execPrefixDd s
  | .exAtSpHl => Sys2Proof.Machine.execExAtSpHl s
  | .jpHl => Sys2Proof.Machine.execJpHl s
  | .exDeHl => Sys2Proof.Machine.execExDeHl s
  | .prefixEd => Sys2Proof.Machine.execPrefixEd s
  | .di => Sys2Proof.Machine.execDi s
  | .ldSpHl => Sys2Proof.Machine.execLdSpHl s
  | .ei => Sys2Proof.Machine.execEi s
  | .prefixFd => Sys2Proof.Machine.execPrefixFd s
  -- the CB page
  | .rlcR r => Sys2Proof.Machine.execRlcR r s
  | .rlcAtHl => Sys2Proof.Machine.execRlcAtHl s
  | .rrcR r => Sys2Proof.Machine.execRrcR r s
  | .rrcAtHl => Sys2Proof.Machine.execRrcAtHl s
  | .rlR r => Sys2Proof.Machine.execRlR r s
  | .rlAtHl => Sys2Proof.Machine.execRlAtHl s
  | .rrR r => Sys2Proof.Machine.execRrR r s
  | .rrAtHl => Sys2Proof.Machine.execRrAtHl s
  | .slaR r => Sys2Proof.Machine.execSlaR r s
  | .slaAtHl => Sys2Proof.Machine.execSlaAtHl s
  | .sraR r => Sys2Proof.Machine.execSraR r s
  | .sraAtHl => Sys2Proof.Machine.execSraAtHl s
  | .sllR r => Sys2Proof.Machine.execSllR r s
  | .sllAtHl => Sys2Proof.Machine.execSllAtHl s
  | .srlR r => Sys2Proof.Machine.execSrlR r s
  | .srlAtHl => Sys2Proof.Machine.execSrlAtHl s
  | .bitR b r => Sys2Proof.Machine.execBitR b r s
  | .bitAtHl b => Sys2Proof.Machine.execBitAtHl b s
  | .resR b r => Sys2Proof.Machine.execResR b r s
  | .resAtHl b => Sys2Proof.Machine.execResAtHl b s
  | .setR b r => Sys2Proof.Machine.execSetR b r s
  | .setAtHl b => Sys2Proof.Machine.execSetAtHl b s
  -- the ED page
  | .inRC r => Sys2Proof.Machine.execInRC r s
  | .inC => Sys2Proof.Machine.execInC s
  | .outCR r => Sys2Proof.Machine.execOutCR r s
  | .outC0 => Sys2Proof.Machine.execOutC0 s
  | .sbcHlP p => Sys2Proof.Machine.execSbcHlP p s
  | .adcHlP p => Sys2Proof.Machine.execAdcHlP p s
  | .ldAtNnP p nn => Sys2Proof.Machine.execLdAtNnP p nn s
  | .ldPAtNn p nn => Sys2Proof.Machine.execLdPAtNn p nn s
  | .neg x => Sys2Proof.Machine.execNeg x s
  | .retn x => Sys2Proof.Machine.execRetn x s
  | .reti => Sys2Proof.Machine.execReti s
  | .im0 x1 x0 => Sys2Proof.Machine.execIm0 x1 x0 s
  | .im1 x1 => Sys2Proof.Machine.execIm1 x1 s
  | .im2 x1 => Sys2Proof.Machine.execIm2 x1 s
  | .ldIA => Sys2Proof.Machine.execLdIA s
  | .ldRA => Sys2Proof.Machine.execLdRA s
  | .ldAI => Sys2Proof.Machine.execLdAI s
  | .ldAR => Sys2Proof.Machine.execLdAR s
  | .rrd => Sys2Proof.Machine.execRrd s
  | .rld => Sys2Proof.Machine.execRld s
  | .ldi => Sys2Proof.Machine.execLdi s
  | .cpi => Sys2Proof.Machine.execCpi s
  | .ini => Sys2Proof.Machine.execIni s
  | .outi => Sys2Proof.Machine.execOuti s
  | .ldd => Sys2Proof.Machine.execLdd s
  | .cpd => Sys2Proof.Machine.execCpd s
  | .ind => Sys2Proof.Machine.execInd s
  | .outd => Sys2Proof.Machine.execOutd s
  | .ldir => Sys2Proof.Machine.execLdir s
  | .cpir => Sys2Proof.Machine.execCpir s
  | .inir => Sys2Proof.Machine.execInir s
  | .otir => Sys2Proof.Machine.execOtir s
  | .lddr => Sys2Proof.Machine.execLddr s
  | .cpdr => Sys2Proof.Machine.execCpdr s
  | .indr => Sys2Proof.Machine.execIndr s
  | .otdr => Sys2Proof.Machine.execOtdr s
  | .nopEd op => Sys2Proof.Machine.execNopEd op s
  -- the DD page
  | .addIxP p => Sys2Proof.Machine.execAddIxP p s
  | .ldIxNn nn => Sys2Proof.Machine.execLdIxNn nn s
  | .ldAtNnIx nn => Sys2Proof.Machine.execLdAtNnIx nn s
  | .incIx => Sys2Proof.Machine.execIncIx s
  | .incIxh => Sys2Proof.Machine.execIncIxh s
  | .decIxh => Sys2Proof.Machine.execDecIxh s
  | .ldIxhN n => Sys2Proof.Machine.execLdIxhN n s
  | .ldIxAtNn nn => Sys2Proof.Machine.execLdIxAtNn nn s
  | .decIx => Sys2Proof.Machine.execDecIx s
  | .incIxl => Sys2Proof.Machine.execIncIxl s
  | .decIxl => Sys2Proof.Machine.execDecIxl s
  | .ldIxlN n => Sys2Proof.Machine.execLdIxlN n s
  | .incAtIx d => Sys2Proof.Machine.execIncAtIx d s
  | .decAtIx d => Sys2Proof.Machine.execDecAtIx d s
  | .ldAtIxN d n => Sys2Proof.Machine.execLdAtIxN d n s
  | .ldRSIx r r2 => Sys2Proof.Machine.execLdRSIx r r2 s
  | .ldRAtIx r d => Sys2Proof.Machine.execLdRAtIx r d s
  | .ldAtIxS d r => Sys2Proof.Machine.execLdAtIxS d r s
  | .addIxHalf h => Sys2Proof.Machine.execAddIxHalf h s
  | .addAtIx d => Sys2Proof.Machine.execAddAtIx d s
  | .adcIxHalf h => Sys2Proof.Machine.execAdcIxHalf h s
  | .adcAtIx d => Sys2Proof.Machine.execAdcAtIx d s
  | .subIxHalf h => Sys2Proof.Machine.execSubIxHalf h s
  | .subAtIx d => Sys2Proof.Machine.execSubAtIx d s
  | .sbcIxHalf h => Sys2Proof.Machine.execSbcIxHalf h s
  | .sbcAtIx d => Sys2Proof.Machine.execSbcAtIx d s
  | .andIxHalf h => Sys2Proof.Machine.execAndIxHalf h s
  | .andAtIx d => Sys2Proof.Machine.execAndAtIx d s
  | .xorIxHalf h => Sys2Proof.Machine.execXorIxHalf h s
  | .xorAtIx d => Sys2Proof.Machine.execXorAtIx d s
  | .orIxHalf h => Sys2Proof.Machine.execOrIxHalf h s
  | .orAtIx d => Sys2Proof.Machine.execOrAtIx d s
  | .cpIxHalf h => Sys2Proof.Machine.execCpIxHalf h s
  | .cpAtIx d => Sys2Proof.Machine.execCpAtIx d s
  | .prefixDdCb => Sys2Proof.Machine.execPrefixDdCb s
  | .popIx => Sys2Proof.Machine.execPopIx s
  | .exAtSpIx => Sys2Proof.Machine.execExAtSpIx s
  | .pushIx => Sys2Proof.Machine.execPushIx s
  | .jpIx => Sys2Proof.Machine.execJpIx s
  | .ldSpIx => Sys2Proof.Machine.execLdSpIx s
  | .ddThenDd => Sys2Proof.Machine.execDdThenDd s
  | .ddThenFd => Sys2Proof.Machine.execDdThenFd s
  | .ddThenEd => Sys2Proof.Machine.execDdThenEd s
  | .ddIgnored base => Sys2Proof.Machine.execDdIgnored base s
  -- the FD page
  | .addIyP p => Sys2Proof.Machine.execAddIyP p s
  | .ldIyNn nn => Sys2Proof.Machine.execLdIyNn nn s
  | .ldAtNnIy nn => Sys2Proof.Machine.execLdAtNnIy nn s
  | .incIy => Sys2Proof.Machine.execIncIy s
  | .incIyh => Sys2Proof.Machine.execIncIyh s
  | .decIyh => Sys2Proof.Machine.execDecIyh s
  | .ldIyhN n => Sys2Proof.Machine.execLdIyhN n s
  | .ldIyAtNn nn => Sys2Proof.Machine.execLdIyAtNn nn s
  | .decIy => Sys2Proof.Machine.execDecIy s
  | .incIyl => Sys2Proof.Machine.execIncIyl s
  | .decIyl => Sys2Proof.Machine.execDecIyl s
  | .ldIylN n => Sys2Proof.Machine.execLdIylN n s
  | .incAtIy d => Sys2Proof.Machine.execIncAtIy d s
  | .decAtIy d => Sys2Proof.Machine.execDecAtIy d s
  | .ldAtIyN d n => Sys2Proof.Machine.execLdAtIyN d n s
  | .ldRSIy r r2 => Sys2Proof.Machine.execLdRSIy r r2 s
  | .ldRAtIy r d => Sys2Proof.Machine.execLdRAtIy r d s
  | .ldAtIyS d r => Sys2Proof.Machine.execLdAtIyS d r s
  | .addIyHalf h => Sys2Proof.Machine.execAddIyHalf h s
  | .addAtIy d => Sys2Proof.Machine.execAddAtIy d s
  | .adcIyHalf h => Sys2Proof.Machine.execAdcIyHalf h s
  | .adcAtIy d => Sys2Proof.Machine.execAdcAtIy d s
  | .subIyHalf h => Sys2Proof.Machine.execSubIyHalf h s
  | .subAtIy d => Sys2Proof.Machine.execSubAtIy d s
  | .sbcIyHalf h => Sys2Proof.Machine.execSbcIyHalf h s
  | .sbcAtIy d => Sys2Proof.Machine.execSbcAtIy d s
  | .andIyHalf h => Sys2Proof.Machine.execAndIyHalf h s
  | .andAtIy d => Sys2Proof.Machine.execAndAtIy d s
  | .xorIyHalf h => Sys2Proof.Machine.execXorIyHalf h s
  | .xorAtIy d => Sys2Proof.Machine.execXorAtIy d s
  | .orIyHalf h => Sys2Proof.Machine.execOrIyHalf h s
  | .orAtIy d => Sys2Proof.Machine.execOrAtIy d s
  | .cpIyHalf h => Sys2Proof.Machine.execCpIyHalf h s
  | .cpAtIy d => Sys2Proof.Machine.execCpAtIy d s
  | .prefixFdCb => Sys2Proof.Machine.execPrefixFdCb s
  | .popIy => Sys2Proof.Machine.execPopIy s
  | .exAtSpIy => Sys2Proof.Machine.execExAtSpIy s
  | .pushIy => Sys2Proof.Machine.execPushIy s
  | .jpIy => Sys2Proof.Machine.execJpIy s
  | .ldSpIy => Sys2Proof.Machine.execLdSpIy s
  | .fdThenDd => Sys2Proof.Machine.execFdThenDd s
  | .fdThenFd => Sys2Proof.Machine.execFdThenFd s
  | .fdThenEd => Sys2Proof.Machine.execFdThenEd s
  | .fdIgnored base => Sys2Proof.Machine.execFdIgnored base s
  -- the DDCB page
  | .rlcAtIx d => Sys2Proof.Machine.execRlcAtIx d s
  | .rlcAtIxR d r => Sys2Proof.Machine.execRlcAtIxR d r s
  | .rrcAtIx d => Sys2Proof.Machine.execRrcAtIx d s
  | .rrcAtIxR d r => Sys2Proof.Machine.execRrcAtIxR d r s
  | .rlAtIx d => Sys2Proof.Machine.execRlAtIx d s
  | .rlAtIxR d r => Sys2Proof.Machine.execRlAtIxR d r s
  | .rrAtIx d => Sys2Proof.Machine.execRrAtIx d s
  | .rrAtIxR d r => Sys2Proof.Machine.execRrAtIxR d r s
  | .slaAtIx d => Sys2Proof.Machine.execSlaAtIx d s
  | .slaAtIxR d r => Sys2Proof.Machine.execSlaAtIxR d r s
  | .sraAtIx d => Sys2Proof.Machine.execSraAtIx d s
  | .sraAtIxR d r => Sys2Proof.Machine.execSraAtIxR d r s
  | .sllAtIx d => Sys2Proof.Machine.execSllAtIx d s
  | .sllAtIxR d r => Sys2Proof.Machine.execSllAtIxR d r s
  | .srlAtIx d => Sys2Proof.Machine.execSrlAtIx d s
  | .srlAtIxR d r => Sys2Proof.Machine.execSrlAtIxR d r s
  | .bitAtIx b d z => Sys2Proof.Machine.execBitAtIx b d z s
  | .resAtIx b d => Sys2Proof.Machine.execResAtIx b d s
  | .resAtIxR b d r => Sys2Proof.Machine.execResAtIxR b d r s
  | .setAtIx b d => Sys2Proof.Machine.execSetAtIx b d s
  | .setAtIxR b d r => Sys2Proof.Machine.execSetAtIxR b d r s
  -- the FDCB page
  | .rlcAtIy d => Sys2Proof.Machine.execRlcAtIy d s
  | .rlcAtIyR d r => Sys2Proof.Machine.execRlcAtIyR d r s
  | .rrcAtIy d => Sys2Proof.Machine.execRrcAtIy d s
  | .rrcAtIyR d r => Sys2Proof.Machine.execRrcAtIyR d r s
  | .rlAtIy d => Sys2Proof.Machine.execRlAtIy d s
  | .rlAtIyR d r => Sys2Proof.Machine.execRlAtIyR d r s
  | .rrAtIy d => Sys2Proof.Machine.execRrAtIy d s
  | .rrAtIyR d r => Sys2Proof.Machine.execRrAtIyR d r s
  | .slaAtIy d => Sys2Proof.Machine.execSlaAtIy d s
  | .slaAtIyR d r => Sys2Proof.Machine.execSlaAtIyR d r s
  | .sraAtIy d => Sys2Proof.Machine.execSraAtIy d s
  | .sraAtIyR d r => Sys2Proof.Machine.execSraAtIyR d r s
  | .sllAtIy d => Sys2Proof.Machine.execSllAtIy d s
  | .sllAtIyR d r => Sys2Proof.Machine.execSllAtIyR d r s
  | .srlAtIy d => Sys2Proof.Machine.execSrlAtIy d s
  | .srlAtIyR d r => Sys2Proof.Machine.execSrlAtIyR d r s
  | .bitAtIy b d z => Sys2Proof.Machine.execBitAtIy b d z s
  | .resAtIy b d => Sys2Proof.Machine.execResAtIy b d s
  | .resAtIyR b d r => Sys2Proof.Machine.execResAtIyR b d r s
  | .setAtIy b d => Sys2Proof.Machine.execSetAtIy b d s
  | .setAtIyR b d r => Sys2Proof.Machine.execSetAtIyR b d r s

end Sys2Proof.Machine
end

