-- ==== Sys2Proof/Machine/HostOps.lean ====
section
/-! DEFINITION. What the host does between two iterations (spec/60_exceptions.md R418), the reset procedure
(70_reset_and_hazards.md R531), and the clock of the CTC chips (60_exceptions.md R413). -/

namespace Sys2Proof.Machine

/-! ## CTC operations that can count -/

/-- CTC_CHAIN of chip `k` (61_ctc.md R464). -/
def chainOf (s : State) (k : Nat) : Chain := (s.platform.ctcChain[k]?).getD .unwired

/-- An operation on chip `k` that can count: its zero counts become events (R465). A chip that the platform
does not have does nothing; `none` says that a chain did not end (log 10). -/
def ctcOp (k : Nat) (op : Chain → CtcRun → Option CtcRun) (s : State) : Option State :=
  match s.ctcs[k]? with
  | none => some s
  | some c =>
    (op (chainOf s k) { chip := c, zeroCounts := [] }).map fun x =>
      { s with
        ctcs := s.ctcs.set k x.chip
        trace := x.zeroCounts.map (Event.zeroCount k) ++ s.trace }

/-- `onCyclesProcessed(t)` of the chips listed, in order (60_exceptions.md R413). -/
def tickChips (t : Nat) : List Nat → State → Option State
  | [], s => some s
  | k :: ks, s => (ctcOp k (fun w x => Ctc.tick w t x) s).bind (tickChips t ks)

/-! ## Reset -/

/-- `reset(powerOn)` (R531, R532): the draws are values for the registers that a power-on reset draws. Every
chip is reset with the CPU; memory is kept. -/
def resetMachine (powerOn : Bool) (draw : Regs) (drawFlags : Flags) (s : State) : State :=
  { s with
    regs := if powerOn then draw else s.regs
    flags := if powerOn then drawFlags else s.flags
    pc := 0x0000
    i := 0x00
    rlo7 := 0
    rbit7 := false
    iff1 := false
    iff2 := false
    im := .im0
    halted := false
    eidi := false
    afterPrefix := false
    nmiPending := false
    waitAcc := 0
    tTotal := 0
    ctcs := s.ctcs.map fun _ => Ctc.afterReset
    pios := s.pios.map fun _ => Pio.afterReset }

/-! ## The register accessor (R418, 10_state.md R20) -/

/-- An 8-bit register written by the host; F sets the eight flags (R33), R both of its fields (R28). -/
def hostWrite8 (reg : NamedReg8) (v : Byte) (s : State) : State :=
  match reg with
  | .a => s.withRegs { s.regs with a := v }
  | .f => s.withFlags (Flags.unpack v)
  | .b => s.withRegs { s.regs with b := v }
  | .c => s.withRegs { s.regs with c := v }
  | .d => s.withRegs { s.regs with d := v }
  | .e => s.withRegs { s.regs with e := v }
  | .h => s.withRegs { s.regs with h := v }
  | .l => s.withRegs { s.regs with l := v }
  | .aAlt => s.withRegs { s.regs with aAlt := v }
  | .fAlt => s.withRegs { s.regs with fAlt := v }
  | .bAlt => s.withRegs { s.regs with bAlt := v }
  | .cAlt => s.withRegs { s.regs with cAlt := v }
  | .dAlt => s.withRegs { s.regs with dAlt := v }
  | .eAlt => s.withRegs { s.regs with eAlt := v }
  | .hAlt => s.withRegs { s.regs with hAlt := v }
  | .lAlt => s.withRegs { s.regs with lAlt := v }
  | .i => { s with i := v }
  | .r => { s with rlo7 := v.setWidth 7, rbit7 := v.getLsbD 7 }

/-- A 16-bit register written by the host. -/
def hostWrite16 (reg : NamedReg16) (v : Word) (s : State) : State :=
  match reg with
  | .ix => s.withRegs { s.regs with ix := v }
  | .iy => s.withRegs { s.regs with iy := v }
  | .sp => setSp v s
  | .pc => setPc v s

/-- A flag or a flip-flop written by the host. -/
def hostWriteFlag (f : NamedFlag) (v : Bool) (s : State) : State :=
  match f with
  | .s => s.withFlags { s.flags with sf := v }
  | .z => s.withFlags { s.flags with zf := v }
  | .y => s.withFlags { s.flags with yf := v }
  | .h => s.withFlags { s.flags with hf := v }
  | .x => s.withFlags { s.flags with xf := v }
  | .p => s.withFlags { s.flags with pf := v }
  | .n => s.withFlags { s.flags with nf := v }
  | .c => s.withFlags { s.flags with cf := v }
  | .iff1 => { s with iff1 := v }
  | .iff2 => { s with iff2 := v }

/-! ## The interactions of R418 -/

/-- `putIn(X, v)` on PIO chip `k` (62_pio.md R503, R505). -/
def hostPutIn (k : Nat) (x : PortId) (v : Byte) (s : State) : State :=
  match s.pios[k]? with
  | some q => { s with pios := s.pios.set k (q.putIn x v) }
  | none => s

/-- `fetchOut(X)` on PIO chip `k`: the byte that the peripheral takes is an event (62_pio.md R502). -/
def hostFetchOut (k : Nat) (x : PortId) (s : State) : State :=
  match s.pios[k]? with
  | some q => observe (.fetchedOut k x (q.fetchOut x).1) { s with pios := s.pios.set k (q.fetchOut x).2 }
  | none => s

/-- One host interaction (R418). -/
def hostEvent (e : HostEvent) (s : State) : Option State :=
  match e with
  | .fireNmi => some { s with nmiPending := true }
  | .addWait n => some { s with waitAcc := s.waitAcc + n }
  | .ctcLevel k n l => ctcOp k (fun w x => Ctc.setLevel w n l x) s
  | .ctcPulse k n => ctcOp k (fun w x => Ctc.pulse w n x) s
  | .pioPutIn k x v => some (hostPutIn k x v s)
  | .pioFetchOut k x => some (hostFetchOut k x s)
  | .writeReg8 reg v => some (hostWrite8 reg v s)
  | .writeReg16 reg v => some (hostWrite16 reg v s)
  | .writeFlag f v => some (hostWriteFlag f v s)
  | .writeIm m => some { s with im := m }
  | .writeMem a v => some { s with mem := s.mem.write a.toNat v }
  | .reset powerOn draw drawFlags => some (resetMachine powerOn draw drawFlags s)
  | .stop => some { s with stop := true }

/-- The interactions of one iteration boundary, in order. -/
def hostEvents : List HostEvent → State → Option State
  | [], s => some s
  | e :: es, s => (hostEvent e s).bind (hostEvents es)

/-- What the host does before the coming iteration: the first list of the inbox (log 8). -/
def hostPhase (s : State) : Option State :=
  match s.inbox with
  | [] => some s
  | es :: rest => hostEvents es { s with inbox := rest }

end Sys2Proof.Machine
end

