-- ==== Sys2Proof/Machine/Iteration.lean ====
section
/-! DEFINITION. The run-loop iteration (spec/60_exceptions.md R404): interrupt acceptance, one instruction or
halted no-op, the wait states and the tick broadcast. -/

namespace Sys2Proof.Machine

/-- What comes after a phase that answers a next state. -/
def andThen (r : Result) (k : State → Result) : Result :=
  match r with
  | .next s => k s
  | .fault f => .fault f
  | .refused f => .refused f

/-! ## Interrupt acceptance -/

/-- `IM0_SINGLE` (R408): the one-byte instruction of the base page that the vector is, other than HALT and
the prefixes. -/
def im0Instr (v : Byte) : Option Instr :=
  match decode [v] with
  | .ok i _ => if i.isPrefixRow || i == .halt then none else some i
  | .error _ => none

/-- `AcceptIM0(v)` (R408, R411): the instruction runs with no fetch, so PC is the interrupted PC. -/
def acceptIm0 (v : Byte) (s : State) : Result :=
  match im0Instr v with
  | some i => execBaseRow i (charge s.platform.accept.im0 s)
  | none => .refused .im0NotOneByte

/-- `AcceptINT(s)` (R407). -/
def acceptInt (id : SourceId) (s : State) : Result :=
  let r := acceptSource id s
  match r.2.im with
  | .im0 => acceptIm0 r.1 r.2
  | .im1 => .next (acceptIm1 r.2)
  | .im2 => .next (acceptIm2 r.1 r.2)

/-- Steps 1 to 3 of R404: whether an interrupt was accepted, and the outcome. -/
def interruptPhase (s : State) : Bool × Result :=
  if s.afterPrefix then (false, .next s)
  else
    let s1 := { s with eidi := false }
    if s.nmiPending then (true, .next (acceptNmi s1))
    else if s.eidi then (false, .next s1)
    else if s.iff1 then
      match scanSources s1 s1.platform.intSources with
      | some id => (true, acceptInt id s1)
      | none => (false, .next s1)
    else (false, .next s1)

/-! ## One instruction -/

/-- `ExecuteInstruction()` (30_encoding.md R111): the bytes at PC are decoded, the instruction's own are
fetched, and it is executed. -/
def executeInstruction (s : State) : Result :=
  match decode (window s s.pc 4) with
  | .ok i _ => exec i (fetchCode 0 i.code s)
  | .error _ => .fault .internalConsistencyFailure

/-- Steps 4 and 6 of R404: the halted no-op (R412) or one instruction; no halted no-op after a prefix-chain step
(10_state.md R39, log 17). -/
def executePhase (accepted : Bool) (s : State) : Result :=
  let s1 := { s with afterPrefix := false }
  if s.halted && !accepted && !s.afterPrefix then .next (charge s.platform.tstates.halted (incR s1))
  else executeInstruction s1

/-- The end of an iteration (R413, R414): wait states, the cumulative counter, the tick broadcast. -/
def closeIteration (s : State) : Result :=
  let t := s.t + s.waitAcc
  let s1 := { s with t := t, waitAcc := 0, tTotal := (s.tTotal + t) % s.platform.tstatesWrap }
  match tickChips t (List.range s1.ctcs.length) s1 with
  | some s2 => .next s2
  | none => .fault .ctcChainLoop

/-- `Iteration()` (R404). -/
def iteration (s : State) : Result :=
  let p := interruptPhase { s with t := 0 }
  andThen p.2 fun s1 => andThen (executePhase p.1 s1) closeIteration

/-- The host's interactions, then one iteration (R404, R418). -/
def hostThenIteration (s : State) : Result :=
  match hostPhase s with
  | some s1 => iteration s1
  | none => .fault .ctcChainLoop

/-- The bytes of `bs` stored at `a` and after it, wrapping. -/
def storeBytes (a : Word) : List Byte → Memory → Memory
  | [], m => m
  | b :: bs, m => storeBytes (a + 1) bs (m.write a.toNat b)

/-- The bytes of an instruction whose bits are `w`, then zeros up to the longest instruction. -/
def fetchBytes (nbits w : Nat) : List Byte :=
  let n := (nbits + 7) / 8
  tableBytes n w ++ List.replicate (4 - n) 0

end Sys2Proof.Machine
end

