-- ==== Sys2Proof/Machine/Step.lean ====
section
/-! DEFINITION. One step of the machine, and the state that fetches a given instruction next. -/

namespace Sys2Proof.Machine

/-- One iteration of the run loop (spec/60_exceptions.md R404), after what the host does at the boundary
before it (R418). -/
def step (s : State) : Host.Outcome State Fault Refusal := hostThenIteration s

/-- `s` with an instruction's bytes at PC (log 14, 16). -/
def State.withFetchWord (s : State) (nbits w : Nat) : State :=
  { s with mem := storeBytes s.pc (fetchBytes nbits w) s.mem }

end Sys2Proof.Machine
end

