-- ==== Sys2Proof/Safety.lean ====
section
/-! DEFINITION. When a run has ended (spec/60_exceptions.md R422), the wrap-aware difference of two readings
of the cumulative counter (R414), and what holds of every state that a run reaches (10_state.md R20, R42,
61_ctc.md R451). -/

namespace Sys2Proof

open Sys2Proof.Machine

/-- What a launch chooses as the end of a run (R422). -/
inductive EndRule where
  | halted | exitPc | hostStop
  deriving DecidableEq, Repr

/-- The end that the launch chose has come at this state, the state after an iteration (R422 (a), (b); a launch
that chose (c) waits for the stop alone). -/
def endReached (rule : EndRule) (s : State) : Bool :=
  match rule with
  | .halted => s.halted
  | .exitPc => decide (s.platform.exitPc = some s.pc) && !s.afterPrefix
  | .hostStop => false

/-- The run has ended at this state, the state after an iteration: the end that the launch chose has come, or the
host has stopped the run (R418, R422). DEDUCED (unsafe where a launch's choice excludes the stop, log 7): the stop ends
a run whatever its launch chose, as R418's "the run ends after the current iteration" has it. -/
def runEnded (rule : EndRule) (s : State) : Bool := s.stop || endReached rule s

/-- `calcTStatesDiff(t1, t2)` (R414). -/
def calcTStatesDiff (wrap t1 t2 : Nat) : Nat := if t1 ≤ t2 then t2 - t1 else wrap - t1 + t2

/-- The ranges of a CTC channel's counting fields (61_ctc.md R451). -/
def Machine.Channel.inRange (x : Channel) : Prop :=
  1 ≤ x.counter ∧ x.counter ≤ 256 ∧ 1 ≤ x.reload ∧ x.reload ≤ 256 ∧ 1 ≤ x.pre ∧ x.pre ≤ 256

/-- Every channel of the chip is in range. -/
def Machine.Ctc.inRange (c : Ctc) : Prop :=
  c.ch0.inRange ∧ c.ch1.inRange ∧ c.ch2.inRange ∧ c.ch3.inRange

/-- The state invariant: memory in canonical form, every CTC channel in range, every stored PIO vector even
(62_pio.md R494), every CTC vector base a multiple of 8 (61_ctc.md R457), the cumulative counter below the
wrap threshold (10_state.md R42). -/
structure Machine.State.Inv (s : State) : Prop where
  memory : s.mem.wf = true
  channels : ∀ c ∈ s.ctcs, c.inRange
  vecbases : ∀ c ∈ s.ctcs, c.vecbase &&& 0x07 = 0
  vectors : ∀ p ∈ s.pios, p.a.vector.getLsbD 0 = false ∧ p.b.vector.getLsbD 0 = false
  counter : s.tTotal < s.platform.tstatesWrap

end Sys2Proof
end

