-- ==== Sys2Proof/Certificates/Slice0/Obligations.lean ====
section
/-! DEFINITION. The statements for the provers. Each names the rules of spec/ that it formalises. The helper
predicates say in arithmetic what the spec's formulas mean. -/

namespace Sys2Proof.Claim

open Sys2Proof.Machine

/-! ## Memory -/

/-- From `s` to `u` the byte `v` was stored at `a`, if `a` is RAM (20_memory.md R69), and every other byte is as
before. -/
def Stores (s u : State) (a : Word) (v : Byte) : Prop :=
  ∀ b, stored u b = if b = a ∧ memKind s.platform a = .ram then v else stored s b

/-- From `s` to `u` the word `v` was stored at `a` and `a + 1`, low byte first (R62), and every other byte is as
before. -/
def StoresWord (s u : State) (a v : Word) : Prop :=
  ∀ b, stored u b =
    if b = a + 1 ∧ memKind s.platform (a + 1) = .ram then hiByte v
    else if b = a ∧ memKind s.platform a = .ram then loByte v
    else stored s b

/-- Every byte is as before. -/
def StoresNothing (s u : State) : Prop := ∀ b, stored u b = stored s b

/-- The word that two reads, at `a` and then at `a + 1`, give (R62). -/
def wordAt (s : State) (a : Word) : Word :=
  mkWord (heldByte s (s.draws + drawsOf s a) (a + 1)) (peek s a)

/-- The free values that two reads, at `a` and then at `a + 1`, draw. -/
def wordDraws (s : State) (a : Word) : Nat := drawsOf s a + drawsOf s (a + 1)

/-! ## Flags -/

/-- S, Z, Y and X from the byte `res`. -/
def SignZeroFrom (res : Byte) (f : Flags) : Prop :=
  f.sf = res.getLsbD 7 ∧ (f.zf = true ↔ res = 0) ∧ f.yf = res.getLsbD 5 ∧ f.xf = res.getLsbD 3

/-- An even number of one bits (10_state.md R34). -/
def EvenOnes (v : Byte) : Prop := ((List.range 8).filter fun k => v.getLsbD k).length % 2 = 0

/-- The sum `a + b + c` of bytes and its flags (43_alu8.md R221, R234). -/
def Sum8 (a b : Byte) (c : Bool) (res : Byte) (f : Flags) : Prop :=
  res.toNat = (a.toNat + b.toNat + c.toNat) % 256 ∧
  (f.cf = true ↔ 256 ≤ a.toNat + b.toNat + c.toNat) ∧
  (f.hf = true ↔ 16 ≤ a.toNat % 16 + b.toNat % 16 + c.toNat) ∧
  (f.pf = true ↔ a.toInt + b.toInt + c.toNat < -128 ∨ 127 < a.toInt + b.toInt + c.toNat) ∧
  f.nf = false ∧ SignZeroFrom res f

/-- The difference `a - b - c` of bytes and its flags (R222, R234). -/
def Difference8 (a b : Byte) (c : Bool) (res : Byte) (f : Flags) : Prop :=
  (res.toNat : Int) = ((a.toNat : Int) - b.toNat - c.toNat) % 256 ∧
  (f.cf = true ↔ a.toNat < b.toNat + c.toNat) ∧
  (f.hf = true ↔ a.toNat % 16 < b.toNat % 16 + c.toNat) ∧
  (f.pf = true ↔ a.toInt - b.toInt - c.toNat < -128 ∨ 127 < a.toInt - b.toInt - c.toNat) ∧
  f.nf = true ∧ SignZeroFrom res f

/-- The flags of AND, OR and XOR (R223). -/
def LogicFlags (res : Byte) (h : Bool) (f : Flags) : Prop :=
  SignZeroFrom res f ∧ f.hf = h ∧ (f.pf = true ↔ EvenOnes res) ∧ f.nf = false ∧ f.cf = false

/-- The flags of CP: those of the difference, with Y and X from the operand (R231). -/
def CompareFlags (a b : Byte) (f : Flags) : Prop :=
  (f.cf = true ↔ a.toNat < b.toNat) ∧ (f.zf = true ↔ a = b) ∧ f.sf = (a - b).getLsbD 7 ∧
  (f.hf = true ↔ a.toNat % 16 < b.toNat % 16) ∧
  (f.pf = true ↔ a.toInt - b.toInt < -128 ∨ 127 < a.toInt - b.toInt) ∧
  f.nf = true ∧ f.yf = b.getLsbD 5 ∧ f.xf = b.getLsbD 3

/-- Y and X from bits 13 and 11 of a 16-bit result (45_alu16.md R270). -/
def HighYX (res : Word) (f : Flags) : Prop := f.yf = res.getLsbD 13 ∧ f.xf = res.getLsbD 11

/-- The sum `a + b + c` of words and its flags (R271). -/
def Sum16 (a b : Word) (c : Bool) (res : Word) (f : Flags) : Prop :=
  res.toNat = (a.toNat + b.toNat + c.toNat) % 65536 ∧
  (f.cf = true ↔ 65536 ≤ a.toNat + b.toNat + c.toNat) ∧
  (f.hf = true ↔ 4096 ≤ a.toNat % 4096 + b.toNat % 4096 + c.toNat) ∧
  (f.pf = true ↔ a.toInt + b.toInt + c.toNat < -32768 ∨ 32767 < a.toInt + b.toInt + c.toNat) ∧
  f.nf = false ∧ f.sf = res.getLsbD 15 ∧ (f.zf = true ↔ res = 0) ∧ HighYX res f

/-- The difference `a - b - c` of words and its flags (R272). -/
def Difference16 (a b : Word) (c : Bool) (res : Word) (f : Flags) : Prop :=
  (res.toNat : Int) = ((a.toNat : Int) - b.toNat - c.toNat) % 65536 ∧
  (f.cf = true ↔ a.toNat < b.toNat + c.toNat) ∧
  (f.hf = true ↔ a.toNat % 4096 < b.toNat % 4096 + c.toNat) ∧
  (f.pf = true ↔ a.toInt - b.toInt - c.toNat < -32768 ∨ 32767 < a.toInt - b.toInt - c.toNat) ∧
  f.nf = true ∧ f.sf = res.getLsbD 15 ∧ (f.zf = true ↔ res = 0) ∧ HighYX res f

/-- The flags of INC m: `v` is the operand, `old` the flags before (R232). -/
def IncrementFlags (v : Byte) (old f : Flags) : Prop :=
  SignZeroFrom (v + 1) f ∧ (f.hf = true ↔ v.toNat % 16 = 15) ∧ (f.pf = true ↔ v = 0x7F) ∧
  f.nf = false ∧ f.cf = old.cf

/-- The flags of DEC m (R233). -/
def DecrementFlags (v : Byte) (old f : Flags) : Prop :=
  SignZeroFrom (v - 1) f ∧ (f.hf = true ↔ v.toNat % 16 = 0) ∧ (f.pf = true ↔ v = 0x80) ∧
  f.nf = true ∧ f.cf = old.cf

/-- The result and the bit that goes to C of a rotate or shift of `v` with the carry `c` before it
(46_rotate_shift.md R295 to R302). -/
def RotateLaw (op : RotOp) (v : Byte) (c : Bool) (res : Byte) (out : Bool) : Prop :=
  match op with
  | .rlc => res.toNat = (2 * v.toNat + v.toNat / 128) % 256 ∧ out = decide (128 ≤ v.toNat)
  | .rrc => res.toNat = v.toNat / 2 + 128 * (v.toNat % 2) ∧ out = decide (v.toNat % 2 = 1)
  | .rl => res.toNat = (2 * v.toNat + c.toNat) % 256 ∧ out = decide (128 ≤ v.toNat)
  | .rr => res.toNat = v.toNat / 2 + 128 * c.toNat ∧ out = decide (v.toNat % 2 = 1)
  | .sla => res.toNat = 2 * v.toNat % 256 ∧ out = decide (128 ≤ v.toNat)
  | .sra => res.toNat = v.toNat / 2 + 128 * (v.toNat / 128) ∧ out = decide (v.toNat % 2 = 1)
  | .sll => res.toNat = (2 * v.toNat + 1) % 256 ∧ out = decide (128 ≤ v.toNat)
  | .srl => res.toNat = v.toNat / 2 ∧ out = decide (v.toNat % 2 = 1)

/-- The common flag step of R295. -/
def RotateFlags (res : Byte) (out : Bool) (f : Flags) : Prop :=
  SignZeroFrom res f ∧ f.hf = false ∧ (f.pf = true ↔ EvenOnes res) ∧ f.nf = false ∧ f.cf = out

/-- The code of a rotate or shift in the opcode byte (30_encoding.md R98). -/
def rotCode : RotOp → Nat
  | .rlc => 0
  | .rrc => 1
  | .rl => 2
  | .rr => 3
  | .sla => 4
  | .sra => 5
  | .sll => 6
  | .srl => 7

/-- The flags from a byte with C kept (RLD, RRD, IN r,(C): R303, R304, 49_io.md R371). -/
def ByteFlags (v : Byte) (old f : Flags) : Prop :=
  SignZeroFrom v f ∧ f.hf = false ∧ (f.pf = true ↔ EvenOnes v) ∧ f.nf = false ∧ f.cf = old.cf

/-- The block I/O flags: `b` is B after its decrement, `v` the byte transferred, `k` the sum (R376). -/
def BlockIoFlags (b v : Byte) (k : Nat) (f : Flags) : Prop :=
  SignZeroFrom b f ∧ f.nf = v.getLsbD 7 ∧ (f.hf = true ↔ 255 < k) ∧ (f.cf = true ↔ 255 < k) ∧
  (f.pf = true ↔ EvenOnes (BitVec.ofNat 8 (k % 8) ^^^ b))

/-- The condition `cc` holds (30_encoding.md R96). -/
def Holds (f : Flags) : Cond → Prop
  | .nz => f.zf = false
  | .z => f.zf = true
  | .nc => f.cf = false
  | .c => f.cf = true
  | .po => f.pf = false
  | .pe => f.pf = true
  | .p => f.sf = false
  | .m => f.sf = true

/-- The condition of JR (R96). -/
def JrHolds (f : Flags) : JrCond → Prop
  | .nz => f.zf = false
  | .z => f.zf = true
  | .nc => f.cf = false
  | .c => f.cf = true

/-! ## Completion -/

/-- `exec` answers `u` with the T-states of the instruction added, `cost` by the default table
(70_reset_and_hazards.md R539). -/
def Completes (i : Instr) (s : State) (cost : Nat) (u : State) : Prop :=
  exec i s = .next { u with t := u.t + s.cost i cost }

/-- The same with the second count of a form that has two. -/
def CompletesNot (i : Instr) (s : State) (cost : Nat) (u : State) : Prop :=
  exec i s = .next { u with t := u.t + s.costNot i cost }

/-- The T-states of one step of a repeating block instruction: 21 by the default table where it repeats, else 16. -/
def repeatCost (i : Instr) (s : State) (again : Bool) : Nat := if again then s.cost i 21 else s.costNot i 16

/-! ## Operand forms -/

/-- The register that a register code of index context names when it names no index half (30_encoding.md R103). -/
def plainReg : XReg8 → Option Reg8
  | .b => some .b
  | .c => some .c
  | .d => some .d
  | .e => some .e
  | .xh => none
  | .xl => none
  | .a => some .a

/-- `P` holds of every operand form of an ALU operation (43_alu8.md R220): the instruction, the operand, the
state after the operand is read, the T-states. -/
def AluForms (reg : Reg8 → Instr) (imm : Byte → Instr) (atHl : Instr) (half : Index → Half → Instr)
    (atIndex : Index → Byte → Instr) (P : Instr → Byte → State → Nat → Prop) (s : State) : Prop :=
  (∀ r, P (reg r) (s.regs.get8 r) s 4) ∧
  (∀ n, P (imm n) n s 7) ∧
  P atHl (peek s s.regs.hl) (memRead s.regs.hl s).2 7 ∧
  (∀ x h, P (half x h) (s.regs.getHalf x h) s 8) ∧
  (∀ x d, P (atIndex x d) (peek s (s.regs.indexed x d)) (memRead (s.regs.indexed x d) s).2 19)

/-- `exec` writes a result to A and the flags, and nothing else, to the state `s0` that has read the operand. -/
def ToA (i : Instr) (s s0 : State) (cost : Nat) (law : Byte → Flags → Prop) : Prop :=
  ∃ res f, Completes i s cost { s0 with regs := { s0.regs with a := res }, flags := f } ∧ law res f

/-- The value of a register that the host's accessor names (10_state.md R20, R28, R32). -/
def named8 (s : State) : NamedReg8 → Byte
  | .a => s.regs.a
  | .f => s.flags.pack
  | .b => s.regs.b
  | .c => s.regs.c
  | .d => s.regs.d
  | .e => s.regs.e
  | .h => s.regs.h
  | .l => s.regs.l
  | .aAlt => s.regs.aAlt
  | .fAlt => s.regs.fAlt
  | .bAlt => s.regs.bAlt
  | .cAlt => s.regs.cAlt
  | .dAlt => s.regs.dAlt
  | .eAlt => s.regs.eAlt
  | .hAlt => s.regs.hAlt
  | .lAlt => s.regs.lAlt
  | .i => s.i
  | .r => BitVec.ofNat 8 (128 * s.rbit7.toNat + s.rlo7.toNat)

/-- The value of a 16-bit register that the host's accessor names (R20). -/
def named16 (s : State) : NamedReg16 → Word
  | .ix => s.regs.ix
  | .iy => s.regs.iy
  | .sp => s.regs.sp
  | .pc => s.pc

/-- The value of a flag or flip-flop that the host's accessor names (R20). -/
def namedFlag (s : State) : NamedFlag → Bool
  | .s => s.flags.sf
  | .z => s.flags.zf
  | .y => s.flags.yf
  | .h => s.flags.hf
  | .x => s.flags.xf
  | .p => s.flags.pf
  | .n => s.flags.nf
  | .c => s.flags.cf
  | .iff1 => s.iff1
  | .iff2 => s.iff2

/-! ## The CTC chain -/

/-- The chip after channel `n` rolls over: reloaded, requesting if its interrupt is enabled, one zero count more
(61_ctc.md R463). -/
def rolledOver (n : Chan) (a : CtcRun) : CtcRun :=
  let x := a.chip.chan n
  { chip := a.chip.setChan n { x with counter := x.reload, req := x.req || x.ie }
    zeroCounts := n :: a.zeroCounts }

/-- The chip after an edge starts the armed channel `n` (R460). -/
def startedChan (n : Chan) (a : CtcRun) : CtcRun :=
  let x := a.chip.chan n
  { a with
    chip := a.chip.setChan n
      { x with armed := false, running := true, pre := match x.div with | .by16 => 16 | .by256 => 256 } }

/-- An edge counts on the channel: it is not armed and is a running counter-mode channel (R460, R461). -/
def countsEdges (x : Channel) : Prop := x.armed = false ∧ x.running = true ∧ x.counterMode = true

/-- From `a` to `b` the counter of channel `n` is decremented once, and where it rolls over the chained channel,
if there is one, gets one edge at once (R463, R464): that edge starts it, counts on it, or does nothing. -/
inductive Counted (w : Chain) : Chan → CtcRun → CtcRun → Prop where
  | down (n : Chan) (a : CtcRun) : 2 ≤ (a.chip.chan n).counter →
      Counted w n a
        { a with
          chip := a.chip.setChan n { a.chip.chan n with counter := (a.chip.chan n).counter - 1 } }
  | unchained (n : Chan) (a : CtcRun) : (a.chip.chan n).counter = 1 → chainTarget w n = none →
      Counted w n a (rolledOver n a)
  | starts (n m : Chan) (a : CtcRun) : (a.chip.chan n).counter = 1 → chainTarget w n = some m →
      ((rolledOver n a).chip.chan m).armed = true → Counted w n a (startedChan m (rolledOver n a))
  | ignored (n m : Chan) (a : CtcRun) : (a.chip.chan n).counter = 1 → chainTarget w n = some m →
      ((rolledOver n a).chip.chan m).armed = false → ¬countsEdges ((rolledOver n a).chip.chan m) →
      Counted w n a (rolledOver n a)
  | counts (n m : Chan) (a b : CtcRun) : (a.chip.chan n).counter = 1 → chainTarget w n = some m →
      countsEdges ((rolledOver n a).chip.chan m) → Counted w m (rolledOver n a) b → Counted w n a b

/-- Every chained output goes to a higher-numbered channel. -/
def Upward (w : Chain) : Prop := ∀ n m, chainTarget w n = some m → chanIndex n < chanIndex m

/-! ## The PIO port -/

/-- The number of a mode (62_pio.md R495). -/
def modeNumber : PioMode → Nat
  | .byteOut => 0
  | .byteIn => 1
  | .byteBidir => 2
  | .bitMode => 3

/-- Line `i` of `Visible(X)` (R504). -/
def visibleLine (q : Port) (i : Nat) : Bool := if q.io.getLsbD i then q.inp.getLsbD i else q.out.getLsbD i

/-- `Cond(X)` (R505): in mode 3, some line is monitored, and all of the monitored lines (or one of them) are at the
active level. -/
def BitCondition (q : Port) : Prop :=
  let monitored (i : Nat) : Prop := i < 8 ∧ q.mask.getLsbD i = false
  let active (i : Nat) : Prop := visibleLine q i = q.activeHigh
  q.mode = .bitMode ∧ (∃ i, monitored i) ∧
    if q.andMode then ∀ i, monitored i → active i else ∃ i, monitored i ∧ active i

/-- `Recompute(X)` (R505) takes the port `q` to `r`: the condition is remembered and nothing is requested. -/
def Recomputes (q r : Port) : Prop := ∃ c : Bool, (c = true ↔ BitCondition q) ∧ r = { q with cond := c }

/-- `Evaluate(X)` (R505) takes the port `q` to `r`: the condition is remembered, and its becoming true requests
where the interrupt is enabled and the port does not serve port A (R506). -/
def Evaluates (coupled : Prop) (q r : Port) : Prop :=
  ∃ c n : Bool, (c = true ↔ BitCondition q) ∧
    (n = true ↔ q.req = true ∨ (BitCondition q ∧ q.cond = false ∧ q.ie = true ∧ ¬coupled)) ∧
    r = { q with cond := c, req := n }

/-- A control byte `v` takes the port `q` to `r` (R493 to R499). -/
def ControlLaw (q : Port) (v : Byte) (r : Port) : Prop :=
  match q.expect with
  | .ioMask => Recomputes { q with io := v, expect := .nothing } r
  | .intMask => Recomputes { q with mask := v, expect := .nothing } r
  | .nothing =>
    if v.toNat % 2 = 0 then r = { q with vector := v }
    else if v.toNat % 16 = 15 then
      ∃ m, modeNumber m = v.toNat / 64 ∧
        Recomputes { q with mode := m, ready := false, expect := if m = .bitMode then .ioMask else .nothing } r
    else if v.toNat % 16 = 7 then
      Recomputes
        { q with
          ie := v.getLsbD 7, andMode := v.getLsbD 6, activeHigh := v.getLsbD 5
          req := if v.getLsbD 7 = false ∨ v.getLsbD 4 = true then false else q.req
          expect := if v.getLsbD 4 then .intMask else .nothing } r
    else if v.toNat % 16 = 3 then
      Recomputes { q with ie := v.getLsbD 7, req := if v.getLsbD 7 then q.req else false } r
    else r = q

/-- From `p` to `u` only port `x` of the chip changes, and it becomes a port of which `law` holds. -/
def OnlyPort (p u : Pio) (x : PortId) (law : Port → Prop) : Prop :=
  law (u.port x) ∧ ∀ y, y ≠ x → u.port y = p.port y

/-- The port's handshake after the peripheral's strobe: not ready, requesting if its interrupt is enabled
(R502, R503). -/
def strobed (q : Port) : Port := { q with ready := false, req := q.req || q.ie }

/-- A device of the platform answers the port address `p` (20_memory.md R66). -/
def answers (s : State) (p : Word) : Bool :=
  match portTarget s.platform p with
  | some (.ctc k _) => decide (k < s.ctcs.length)
  | some (.pioData k _) => decide (k < s.pios.length)
  | some (.pioControl k _) => decide (k < s.pios.length)
  | some .device => true
  | none => false

/-- The maskable scan services the source `id` (60_exceptions.md R404, R407): no NMI is latched, the step before was
no prefix-chain step and no EI or DI, IFF1 is set, and `id` requests and is not in service while no source before it
in priority order requests or is in service. -/
def Services (s : State) (id : SourceId) : Prop :=
  s.nmiPending = false ∧ s.afterPrefix = false ∧ s.eidi = false ∧ s.iff1 = true ∧
    sourceRequests s id = true ∧ sourceAccepted s id = false ∧
    ∃ before after, s.platform.intSources = before ++ id :: after ∧
      ∀ x ∈ before, sourceRequests s x = false ∧ sourceAccepted s x = false

/-- The host's interactions `es`, in order, take `s` to `u` (R418). -/
inductive HostDoes : List HostEvent → State → State → Prop where
  | nothing (s : State) : HostDoes [] s s
  | event (e : HostEvent) (es : List HostEvent) (s t u : State) :
      hostEvent e s = some t → HostDoes es t u → HostDoes (e :: es) s u

/-- The instruction after its ignored prefix, if it has one. -/
def unprefixed : Instr → Instr
  | .ddIgnored base => base
  | .fdIgnored base => base
  | i => i

end Sys2Proof.Claim

open Sys2Proof Sys2Proof.Machine Sys2Proof.Claim

/-! ## Reset, memory and registers -/

/-- 10_state.md R45, 61_ctc.md R469, 62_pio.md R510: the fixed fields after reset, every channel stopped with
its interrupt off, both ports in mode 1 with no request. The standard platform has the defaults of
00_scope.md R5 (R411, R412, 20_memory.md R66); that it has one chip of each is log 5's. -/
def Obligations.ResetState : Prop :=
  let s := State.reset
  s.pc = 0x0000 ∧ s.i = 0x00 ∧ s.rlo7 = 0 ∧ s.rbit7 = false ∧ s.iff1 = false ∧ s.iff2 = false ∧
  s.im = .im0 ∧ s.halted = false ∧ s.eidi = false ∧ s.afterPrefix = false ∧ s.nmiPending = false ∧
  s.waitAcc = 0 ∧ s.tTotal = 0 ∧
  s.platform.accept = { nmi := 11, im0 := 2, im1 := 13, im2 := 19 } ∧ s.platform.tstates.halted = 4 ∧
  (∀ i n, s.cost i n = n ∧ s.costNot i n = n) ∧ s.platform.ioUnmapped = none ∧
  (∀ c ∈ s.ctcs, c.vecbase = 0x00 ∧ ∀ n, (c.chan n).running = false ∧ (c.chan n).armed = false ∧
    (c.chan n).ie = false ∧ (c.chan n).counter = 256 ∧ (c.chan n).reload = 256 ∧ (c.chan n).div = .by16) ∧
  (∀ p ∈ s.pios, ∀ x, (p.port x).mode = .byteIn ∧ (p.port x).ie = false ∧ (p.port x).mask = 0xFF ∧
    (p.port x).vector = 0x00 ∧ (p.port x).req = false ∧ (p.port x).acc = false)

/-- The invariant holds at reset. -/
def Obligations.ResetMeetsInvariant : Prop := State.reset.Inv

/-- Every step keeps the invariant: canonical memory, CTC channels in range (61_ctc.md R451), vector bases
multiples of 8 (R457), even PIO vectors (62_pio.md R494), the cumulative counter below the wrap threshold
(10_state.md R42). -/
def Obligations.StepKeepsInvariant : Prop := ∀ s t, s.Inv → step s = .next t → t.Inv

/-- 20_memory.md R61, R69, R73: a read gives the byte stored, in a device range the next free value, and changes
only the trace and, there, the count of free values, by 1; a write stores the byte where there is RAM, so that a read
there gives it, leaves every other byte, and keeps the canonical form. Each is one event of the trace, with its
address and byte, and notifies. -/
def Obligations.MemoryAccess : Prop :=
  ∀ (s : State) (a : Word) (v : Byte), s.mem.wf = true →
    let seen (k : AccessKind) (x : Byte) : List Event :=
      .access { kind := k, addr := a, value := x, notified := true } :: s.trace
    (∀ d, heldByte s d a = if memKind s.platform a = .device then Config.freeByte d else stored s a) ∧
    peek s a = heldByte s s.draws a ∧
    (drawsOf s a = if memKind s.platform a = .device then 1 else 0) ∧
    ((memRead a s).1 = peek s a ∧ StoresNothing s (memRead a s).2 ∧
      (memRead a s).2 = { s with draws := s.draws + drawsOf s a, trace := seen .read (peek s a) }) ∧
    (Stores s (memWrite a v s) a v ∧ (memWrite a v s).mem.wf = true ∧
      memWrite a v s = { s with mem := (memWrite a v s).mem, trace := seen .write v } ∧
      (memKind s.platform a = .ram → (memRead a (memWrite a v s)).1 = v))

/-- 10_state.md R22, R24, R32, R33, 30_encoding.md R93, R94, R101, R103, R104: writing a register, a pair, an
index register or an index half changes it to the value and no other field of the register file, the alternate
set included (the register file with the fields that such a write may reach put back is the one before); in index
context the codes of H and L are the index halves; F packs the eight flags and unpacks to them; an index address is
IX or IY plus the signed displacement, modulo 2^16. -/
def Obligations.RegisterFile : Prop :=
  ∀ g : Regs,
    (∀ (r : Reg8) (v : Byte),
      (∀ q, (g.set8 r v).get8 q = if q = r then v else g.get8 q) ∧
      { g.set8 r v with a := g.a, b := g.b, c := g.c, d := g.d, e := g.e, h := g.h, l := g.l } = g) ∧
    (∀ (p : Pair) (v : Word),
      (∀ q, (g.setPair p v).getPair q = if q = p then v else g.getPair q) ∧
      { g.setPair p v with
        b := g.b, c := g.c, d := g.d, e := g.e, h := g.h, l := g.l, sp := g.sp } = g) ∧
    (g.bc.toNat = g.b.toNat * 256 + g.c.toNat ∧ g.de.toNat = g.d.toNat * 256 + g.e.toNat ∧
      g.hl.toNat = g.h.toNat * 256 + g.l.toNat) ∧
    (∀ (x : Index) (v : Word),
      (∀ y, (g.setIndex x v).getIndex y = if y = x then v else g.getIndex y) ∧
      { g.setIndex x v with ix := g.ix, iy := g.iy } = g) ∧
    (∀ (x : Index) (h : Half) (v : Byte),
      (∀ y k, (g.setHalf x h v).getHalf y k = if y = x ∧ k = h then v else g.getHalf y k) ∧
      { g.setHalf x h v with ix := g.ix, iy := g.iy } = g ∧
      (g.getIndex x).toNat = (g.getHalf x .hi).toNat * 256 + (g.getHalf x .lo).toNat) ∧
    (∀ (x : Index) (v : Byte),
      (∀ (k : XReg8) (r : Reg8), plainReg k = some r →
        g.getX8 x k = g.get8 r ∧ g.setX8 x k v = g.set8 r v) ∧
      g.getX8 x .xh = g.getHalf x .hi ∧ g.setX8 x .xh v = g.setHalf x .hi v ∧
      g.getX8 x .xl = g.getHalf x .lo ∧ g.setX8 x .xl v = g.setHalf x .lo v) ∧
    (∀ f : Flags, Flags.unpack f.pack = f ∧
      f.pack.toNat = 128 * f.sf.toNat + 64 * f.zf.toNat + 32 * f.yf.toNat + 16 * f.hf.toNat +
        8 * f.xf.toNat + 4 * f.pf.toNat + 2 * f.nf.toNat + f.cf.toNat) ∧
    (∀ v : Byte, (Flags.unpack v).pack = v) ∧
    (∀ (x : Index) (d : Byte),
      ((g.indexed x d).toNat : Int) = ((g.getIndex x).toNat + d.toInt) % 65536)

/-! ## Encoding and fetch -/

/-- 30_encoding.md R92 to R109: the decoder gives back every well-formed instruction from its bytes, whatever
follows them; a prefix-chain step is followed by the prefix that it looks at (R106). -/
def Obligations.DecodeOfEncode : Prop :=
  ∀ (i : Instr) (rest : List Byte), i.wellFormed = true → i.isPrefixRow = false →
    decode (encode i ++ i.lookahead ++ rest) = .ok i (i.lookahead ++ rest)

/-- The other direction, and 30_encoding.md R110: what the decoder accepts is a well-formed instruction whose bytes
are those read, and four bytes always decode, to an instruction that is no bare prefix. -/
def Obligations.EncodeOfDecode : Prop :=
  (∀ (bs : List Byte) (i : Instr) (rest : List Byte), decode bs = .ok i rest →
    i.wellFormed = true ∧ bs = encode i ++ rest) ∧
  ∀ b0 b1 b2 b3 : Byte, ∃ i rest, decode [b0, b1, b2, b3] = .ok i rest ∧ i.isPrefixRow = false

/-- Words written out from the encodings of the rules named in each line decode to their instructions. -/
def Obligations.DecodeSpecWords : Prop :=
  decode [0x06, 0x12] = .ok (.ldRN .b 0x12) [] ∧
  decode [0x01, 0x34, 0x12] = .ok (.ldPNn .bc 0x1234) [] ∧
  decode [0xDD, 0x36, 0x01, 0x5A] = .ok (.ldAtIxN 0x01 0x5A) [] ∧
  decode [0xFD, 0xCB, 0x05, 0x46] = .ok (.bitAtIy 0 0x05 6) [] ∧
  decode [0xED, 0xB0] = .ok .ldir [] ∧
  decode [0xED, 0x4D] = .ok .reti [] ∧
  decode [0xDD, 0xEB] = .ok (.ddIgnored .exDeHl) [] ∧
  decode [0xC7 ||| 0x38] = .ok (.rst 7) [] ∧
  decode [0xCB, 0x7F] = .ok (.bitR 7 .a) []

/-- 30_encoding.md R111, R112, 10_state.md R26: fetching an instruction advances PC by its length, R by 1 for
each opcode byte (1 for a base instruction and for a prefix-chain step, 2 for every other), and changes nothing
else but the trace and the count of free values. -/
def Obligations.FetchCounts : Prop :=
  ∀ (i : Instr) (s : State), i.wellFormed = true →
    (∃ n d, fetchCode 0 i.code s =
      { s with
        pc := s.pc + BitVec.ofNat 16 (encode i).length
        rlo7 := s.rlo7 + BitVec.ofNat 7 n
        draws := s.draws + d
        trace := (fetchCode 0 i.code s).trace } ∧
      n = i.code.m1.length) ∧
    ∀ b rest, encode i = b :: rest →
      i.code.m1.length =
        if b = 0xCB ∨ b = 0xED ∨ b = 0xDD ∨ b = 0xFD then (if rest = [] then 1 else 2) else 1

/-! ## The iteration -/

/-- 60_exceptions.md R404, 30_encoding.md R111: an iteration, which is the whole step where the host does nothing
(HostInteractions says what a step is where it does something), runs the interrupt phase and then, unless the CPU is
halted with nothing accepted (and the last step was no prefix-chain step, 10_state.md R39, log 17), in the same
iteration: fetch the instruction that the bytes at PC decode to, run it, close the iteration. With an interrupt
accepted (`acc` true) PC is the handler's address, so that instruction is the handler's first. -/
def Obligations.StepRunsInstruction : Prop :=
  ∀ (s s1 : State) (acc : Bool) (i : Instr) (rest : List Byte),
    interruptPhase { s with t := 0 } = (acc, .next s1) →
    acc = true ∨ s1.halted = false ∨ s1.afterPrefix = true →
    decode (window s1 s1.pc 4) = .ok i rest →
    let run := andThen (exec i (fetchCode 0 i.code { s1 with afterPrefix := false })) closeIteration
    iteration s = run ∧ (s.inbox = [] → step s = run)

/-- 60_exceptions.md R404 to R407: an interrupt is accepted exactly when the last step was no prefix-chain step
and either the NMI is latched or, with no EI or DI just before and IFF1 set, a source requests and no source
before it in priority order requests or is in service: then that source is accepted, by AcceptINT (NmiAcceptance says
what the phase answers for an NMI). With nothing accepted the phase clears eidi, and after a prefix-chain step not even
that, and changes nothing else. -/
def Obligations.AcceptanceCondition : Prop :=
  ∀ s : State,
    ((interruptPhase s).1 = true ↔
      (s.afterPrefix = false ∧ s.nmiPending = true) ∨ ∃ id, Services s id) ∧
    (∀ id, Services s id → interruptPhase s = (true, acceptInt id { s with eidi := false })) ∧
    ((interruptPhase s).1 = false →
      interruptPhase s = (false, .next (if s.afterPrefix then s else { s with eidi := false })))

/-- 60_exceptions.md R405, R411: NMI acceptance. -/
def Obligations.NmiAcceptance : Prop :=
  ∀ s : State, s.mem.wf = true → s.afterPrefix = false → s.nmiPending = true →
    ∃ u, interruptPhase s = (true, .next u) ∧
      StoresWord s u (s.regs.sp - 2) s.pc ∧
      u = { s with
        nmiPending := false, halted := false, eidi := false, rlo7 := s.rlo7 + 1
        regs := { s.regs with sp := s.regs.sp - 2 }
        iff2 := s.iff1, iff1 := false, pc := 0x0066, t := s.t + s.platform.accept.nmi
        mem := u.mem, trace := u.trace }

/-- 60_exceptions.md R407, R409, R410, R411: acceptance of a source in modes 1 and 2. The source gives its
vector and is in service; PC is pushed; mode 1 goes to 0x0038, mode 2 to the word at `I:v`. Where the scan services
the source, that is what the interrupt phase answers, eidi being clear before. -/
def Obligations.MaskableAcceptance : Prop :=
  ∀ (s : State) (id : SourceId), s.mem.wf = true → s.im ≠ .im0 →
    let v := (sourceAccept id s).1
    let src := (sourceAccept id s).2
    ∃ u, acceptInt id s = .next u ∧ (Services s id → interruptPhase s = (true, .next u)) ∧
      StoresWord s u (s.regs.sp - 2) s.pc ∧
      (s.im = .im1 → u.pc = 0x0038 ∧ u.t = s.t + s.platform.accept.im1 ∧ u.draws = s.draws) ∧
      (s.im = .im2 →
        u.pc = wordAt { s with mem := u.mem } (mkWord s.i v) ∧ u.t = s.t + s.platform.accept.im2) ∧
      u = { s with
        halted := false, rlo7 := s.rlo7 + 1, iff1 := false, iff2 := false
        ctcs := src.ctcs, pios := src.pios
        regs := { s.regs with sp := s.regs.sp - 2 }
        pc := u.pc, t := u.t, mem := u.mem, trace := u.trace, draws := u.draws }

/-- 60_exceptions.md R407, R408: acceptance of a source in mode 0 marks the source, clears IFF1, IFF2 and halted,
increments R, and then acts on the source's vector. A vector that is a one-byte instruction other than HALT and the
prefixes runs with no fetch, with the T-states of ACCEPT_TSTATES more (R411); any other vector is refused. -/
def Obligations.ModeZeroAcceptance : Prop :=
  (∀ (s : State) (id : SourceId), s.im = .im0 →
    let src := (sourceAccept id s).2
    let run := acceptIm0 (sourceAccept id s).1
      { s with
        halted := false, rlo7 := s.rlo7 + 1, iff1 := false, iff2 := false, ctcs := src.ctcs, pios := src.pios }
    acceptInt id s = run ∧ (Services s id → interruptPhase s = (true, run))) ∧
  ∀ (v : Byte) (s : State),
    (∀ i, decode [v] = .ok i [] → i.isPrefixRow = false → i ≠ .halt →
      acceptIm0 v s = exec i { s with t := s.t + s.platform.accept.im0 }) ∧
    ((∃ e, decode [v] = .error e) ∨ decode [v] = .ok .halt [] ∨
        (∃ i, decode [v] = .ok i [] ∧ i.isPrefixRow = true) →
      acceptIm0 v s = .refused .im0NotOneByte)

/-- 44_general.md R258, 60_exceptions.md R406, 70_reset_and_hazards.md R534: right after EI or DI the next
iteration accepts no maskable interrupt, whatever the sources ask, and does accept a latched NMI. -/
def Obligations.EiShadow : Prop :=
  ∀ s t : State, s.afterPrefix = false → exec .ei s = .next t ∨ exec .di s = .next t →
    (interruptPhase t).1 = t.nmiPending

/-- 60_exceptions.md R412, R413: with no interrupt to accept and no prefix-chain step before, an iteration of a halted
CPU, which is the whole step where the host does nothing, fetches nothing, increments R, takes the table's T-states of
the halted no-op (4 by default) and the queued wait states, and leaves every register, flag and byte of memory. -/
def Obligations.HaltedNoOp : Prop :=
  ∀ s : State, s.halted = true → s.afterPrefix = false → (interruptPhase s).1 = false →
    s.platform.ctcChain = [] →
    ∃ u, iteration s = .next u ∧ (s.inbox = [] → step s = .next u) ∧
      u = { s with
        rlo7 := s.rlo7 + 1
        t := s.platform.tstates.halted + s.waitAcc
        waitAcc := 0
        tTotal := (s.tTotal + (s.platform.tstates.halted + s.waitAcc)) % s.platform.tstatesWrap
        eidi := false
        ctcs := u.ctcs
        trace := u.trace }

/-- 60_exceptions.md R413, R414, 61_ctc.md R459: the end of an iteration adds the wait states once to its
T-states, adds the sum to the cumulative counter modulo the wrap threshold, runs every CTC chip for that many
T-states, wait states included, each under its own chain, records their zero counts, chip by chip, and changes
nothing else; a chip runs for T T-states one by one, channels 0, 1, 2 and 3 in that order in each; the wrap-aware
difference of two readings is the number of T-states between them, when fewer than the threshold passed. -/
def Obligations.IterationTime : Prop :=
  (∀ s u : State, closeIteration s = .next u →
    u = { s with
      t := s.t + s.waitAcc
      waitAcc := 0
      tTotal := (s.tTotal + (s.t + s.waitAcc)) % s.platform.tstatesWrap
      ctcs := u.ctcs
      trace := u.trace } ∧
    ∃ runs : List CtcRun, runs.length = s.ctcs.length ∧
      (∀ k c, s.ctcs[k]? = some c → ∃ r, runs[k]? = some r ∧
        Ctc.tick (chainOf s k) (s.t + s.waitAcc) { chip := c, zeroCounts := [] } = some r) ∧
      u.ctcs = runs.map (·.chip) ∧
      u.trace =
        (runs.zipIdx.reverse.flatMap fun r => r.1.zeroCounts.map (Event.zeroCount r.2)) ++ s.trace) ∧
  (∀ (w : Chain) (n : Nat) (a b : CtcRun), Ctc.tick w 0 a = some a ∧
    (Ctc.tick w (n + 1) a = some b ↔
      ∃ a0 a1 a2 a3, Ctc.tickChan w .ch0 a = some a0 ∧ Ctc.tickChan w .ch1 a0 = some a1 ∧
        Ctc.tickChan w .ch2 a1 = some a2 ∧ Ctc.tickChan w .ch3 a2 = some a3 ∧ Ctc.tick w n a3 = some b)) ∧
  ∀ wrap t1 k : Nat, t1 < wrap → k < wrap → calcTStatesDiff wrap t1 ((t1 + k) % wrap) = k

/-- 60_exceptions.md R400, 30_encoding.md R110: no step raises InternalConsistencyFailure. -/
def Obligations.NeverInconsistent : Prop := ∀ s, step s ≠ .fault .internalConsistencyFailure

/-- Every iteration, which is the whole step where the host does nothing, completes where no CTC chain is wired and
the interrupt mode is not 0 (60_exceptions.md R400, R404): the core has no other stop. -/
def Obligations.StepCompletes : Prop :=
  ∀ s : State, s.platform.ctcChain = [] → s.im ≠ .im0 →
    ∃ t, iteration s = .next t ∧ (s.inbox = [] → step s = .next t)

/-- 60_exceptions.md R402, 00_scope.md R5: the platform's parameters are fixed for a run. -/
def Obligations.PlatformFixed : Prop := ∀ s t, step s = .next t → t.platform = s.platform

/-- 60_exceptions.md R418, R422, 70_reset_and_hazards.md R531, R532: what each of the host's interactions changes and
that it changes nothing else; a step takes the first list of the host's script off it, applies its interactions in
order and then runs the iteration, and a step on an empty script is the iteration; a run whose host has stopped it
has ended after that step. The model's choices in it: an interaction is an event of the host's script (log 8), the
stop sets a flag and no more and ends a run whatever its launch chose (log 7), an interaction whose CTC chain does not
end faults (log 10), a reset leaves the field t, which R531 does not name (log 15), and the
accessor writes the registers and flags listed by NamedReg8, NamedReg16 and NamedFlag, and IM (log 18). -/
def Obligations.HostInteractions : Prop :=
  ∀ s : State,
    (s.inbox = [] → step s = iteration s) ∧
    (∀ es rest, s.inbox = es :: rest →
      (∀ u, HostDoes es { s with inbox := rest } u → step s = iteration u) ∧
      ((¬∃ u, HostDoes es { s with inbox := rest } u) → step s = .fault .ctcChainLoop) ∧
      ∀ rule t, .stop ∈ es → step s = .next t → runEnded rule t = true) ∧
    hostEvent .fireNmi s = some { s with nmiPending := true } ∧
    (∀ n, hostEvent (.addWait n) s = some { s with waitAcc := s.waitAcc + n }) ∧
    (∀ a v, s.mem.wf = true → ∃ u, hostEvent (.writeMem a v) s = some u ∧ u = { s with mem := u.mem } ∧
      ∀ b, stored u b = if b = a then v else stored s b) ∧
    hostEvent .stop s = some { s with stop := true } ∧
    (∀ reg v, ∃ u, hostEvent (.writeReg8 reg v) s = some u ∧
      (∀ q, named8 u q = if q = reg then v else named8 s q) ∧
      u = { s with
        regs := { u.regs with ix := s.regs.ix, iy := s.regs.iy, sp := s.regs.sp }
        flags := u.flags, i := u.i, rlo7 := u.rlo7, rbit7 := u.rbit7 }) ∧
    (∀ reg v, ∃ u, hostEvent (.writeReg16 reg v) s = some u ∧
      (∀ q, named16 u q = if q = reg then v else named16 s q) ∧
      u = { s with regs := { s.regs with ix := u.regs.ix, iy := u.regs.iy, sp := u.regs.sp }, pc := u.pc }) ∧
    (∀ flag v, ∃ u, hostEvent (.writeFlag flag v) s = some u ∧
      (∀ q, namedFlag u q = if q = flag then v else namedFlag s q) ∧
      u = { s with flags := u.flags, iff1 := u.iff1, iff2 := u.iff2 }) ∧
    (∀ m, hostEvent (.writeIm m) s = some { s with im := m }) ∧
    (∀ k c, s.ctcs[k]? = some c → ∀ (n : Chan) (l : Bool) (r : CtcRun),
      let counted : State :=
        { s with ctcs := s.ctcs.set k r.chip, trace := r.zeroCounts.map (Event.zeroCount k) ++ s.trace }
      (Ctc.setLevel (chainOf s k) n l { chip := c, zeroCounts := [] } = some r →
        hostEvent (.ctcLevel k n l) s = some counted) ∧
      (Ctc.pulse (chainOf s k) n { chip := c, zeroCounts := [] } = some r →
        hostEvent (.ctcPulse k n) s = some counted)) ∧
    (∀ k q, s.pios[k]? = some q → ∀ (x : PortId) (v : Byte),
      hostEvent (.pioPutIn k x v) s = some { s with pios := s.pios.set k (q.putIn x v) } ∧
      hostEvent (.pioFetchOut k x) s = some
        { s with
          pios := s.pios.set k (q.fetchOut x).2
          trace := .fetchedOut k x (q.fetchOut x).1 :: s.trace }) ∧
    (∀ p d f, ∃ u, hostEvent (.reset p d f) s = some u ∧
      (p = true → u.regs = d ∧ u.flags = f) ∧ (p = false → u.regs = s.regs ∧ u.flags = s.flags) ∧
      u = { s with
        regs := u.regs, flags := u.flags, pc := 0x0000, i := 0x00, rlo7 := 0, rbit7 := false
        iff1 := false, iff2 := false, im := .im0, halted := false, eidi := false
        afterPrefix := false, nmiPending := false, waitAcc := 0, tTotal := 0
        ctcs := List.replicate s.ctcs.length Ctc.afterReset
        pios := List.replicate s.pios.length Pio.afterReset })

/-! ## Which instructions write which register -/

/-- 10_state.md R23: only EX AF,AF' and EXX change the alternate set. -/
def Obligations.AlternateSetWriters : Prop :=
  ∀ (i : Instr) (s t : State), i.isPrefixRow = false → exec i s = .next t →
    (unprefixed i ≠ .exAfAf → t.regs.aAlt = s.regs.aAlt ∧ t.regs.fAlt = s.regs.fAlt) ∧
    (unprefixed i ≠ .exx →
      t.regs.bAlt = s.regs.bAlt ∧ t.regs.cAlt = s.regs.cAlt ∧ t.regs.dAlt = s.regs.dAlt ∧
      t.regs.eAlt = s.regs.eAlt ∧ t.regs.hAlt = s.regs.hAlt ∧ t.regs.lAlt = s.regs.lAlt)

/-- 10_state.md R27, R29, R30, R37, R38: only LD I,A writes I; only the IM instructions write IM; only DI, EI,
RETI and RETN write IFF1, only DI and EI write IFF2; only HALT sets halted; only EI and DI set eidi. -/
def Obligations.ControlRegisterWriters : Prop :=
  ∀ (i : Instr) (s t : State), i.isPrefixRow = false → exec i s = .next t →
    (unprefixed i ≠ .ldIA → t.i = s.i) ∧
    ((∀ a b, i ≠ .im0 a b) → (∀ a, i ≠ .im1 a ∧ i ≠ .im2 a) → t.im = s.im) ∧
    (unprefixed i ≠ .di → unprefixed i ≠ .ei →
      t.iff2 = s.iff2 ∧ t.eidi = s.eidi ∧ (i ≠ .reti → (∀ x, i ≠ .retn x) → t.iff1 = s.iff1)) ∧
    (unprefixed i ≠ .halt → t.halted = s.halted) ∧
    t.nmiPending = s.nmiPending ∧ t.waitAcc = s.waitAcc ∧ t.tTotal = s.tTotal

/-- 10_state.md R24: an instruction whose first byte is not 0xDD leaves IX, one whose first byte is not 0xFD
leaves IY. -/
def Obligations.IndexRegisterWriters : Prop :=
  ∀ (i : Instr) (s t : State), i.isPrefixRow = false → i.wellFormed = true → exec i s = .next t →
    ((encode i).head? ≠ some 0xDD → t.regs.ix = s.regs.ix) ∧
    ((encode i).head? ≠ some 0xFD → t.regs.iy = s.regs.iy)

/-! ## 8-bit and 16-bit loads -/

/-- 40_load8.md R140, R141: register to register and immediate to register, the index halves included. -/
def Obligations.LoadRegister8 : Prop :=
  ∀ s : State,
    (∀ r r2, Completes (.ldRS r r2) s 4 { s with regs := s.regs.set8 r (s.regs.get8 r2) }) ∧
    (∀ (x : Index) r r2, Completes (x.sel Instr.ldRSIx Instr.ldRSIy r r2) s 8
      { s with regs := s.regs.setX8 x r (s.regs.getX8 x r2) }) ∧
    (∀ r n, Completes (.ldRN r n) s 7 { s with regs := s.regs.set8 r n }) ∧
    (∀ (x : Index) n, Completes (x.sel (.ldIxhN n) (.ldIyhN n)) s 11
      { s with regs := s.regs.setHalf x .hi n }) ∧
    (∀ (x : Index) n, Completes (x.sel (.ldIxlN n) (.ldIylN n)) s 11
      { s with regs := s.regs.setHalf x .lo n })

/-- 40_load8.md R142, R145, R146: a register loaded from memory. -/
def Obligations.LoadMemory8 : Prop :=
  ∀ s : State,
    let Loads (i : Instr) (r : Reg8) (a : Word) (cost : Nat) : Prop :=
      ∃ u, exec i s = .next u ∧ StoresNothing s u ∧
        u = { s with
          regs := s.regs.set8 r (peek s a), t := s.t + s.cost i cost
          draws := s.draws + drawsOf s a, trace := u.trace }
    (∀ r, Loads (.ldRAtHl r) r s.regs.hl 7) ∧
    (∀ (x : Index) r d, Loads (x.sel (.ldRAtIx r d) (.ldRAtIy r d)) r (s.regs.indexed x d) 19) ∧
    (∀ p, Loads (.ldAAtPp p) .a (s.regs.getPtr p) 7) ∧
    (∀ nn, Loads (.ldAAtNn nn) .a nn 13)

/-- 40_load8.md R143, R144, R147, R148: a byte stored to memory; no register and no flag changes. -/
def Obligations.StoreMemory8 : Prop :=
  ∀ s : State, s.mem.wf = true →
    let Writes (i : Instr) (a : Word) (v : Byte) (cost : Nat) : Prop :=
      ∃ u, exec i s = .next u ∧ Stores s u a v ∧
        u = { s with t := s.t + s.cost i cost, mem := u.mem, trace := u.trace }
    (∀ r, Writes (.ldAtHlS r) s.regs.hl (s.regs.get8 r) 7) ∧
    (∀ (x : Index) d r,
      Writes (x.sel (.ldAtIxS d r) (.ldAtIyS d r)) (s.regs.indexed x d) (s.regs.get8 r) 19) ∧
    (∀ n, Writes (.ldAtHlN n) s.regs.hl n 10) ∧
    (∀ (x : Index) d n, Writes (x.sel (.ldAtIxN d n) (.ldAtIyN d n)) (s.regs.indexed x d) n 19) ∧
    (∀ p, Writes (.ldAtPpA p) (s.regs.getPtr p) s.regs.a 7) ∧
    (∀ nn, Writes (.ldAtNnA nn) nn s.regs.a 13)

/-- 40_load8.md R149 to R152: the loads of I and R. -/
def Obligations.SpecialRegisterLoads : Prop :=
  ∀ s : State,
    let FromSpecial (i : Instr) (v : Byte) : Prop :=
      ∃ f, Completes i s 9 { s with regs := { s.regs with a := v }, flags := f } ∧
        SignZeroFrom v f ∧ f.hf = false ∧ f.pf = s.iff2 ∧ f.nf = false ∧ f.cf = s.flags.cf
    FromSpecial .ldAI s.i ∧
    (∃ v : Byte, v.toNat = 128 * s.rbit7.toNat + s.rlo7.toNat ∧ FromSpecial .ldAR v) ∧
    Completes .ldIA s 9 { s with i := s.regs.a } ∧
    (∃ u, exec .ldRA s = .next u ∧
      u = { s with rlo7 := u.rlo7, rbit7 := u.rbit7, t := s.t + s.cost .ldRA 9 } ∧
      u.rlo7.toNat = s.regs.a.toNat % 128 ∧ u.rbit7 = decide (128 ≤ s.regs.a.toNat))

/-- 41_load16.md R170, R171, R172, R175: a pair loaded from an immediate, from memory (low byte first), and SP
from HL, IX and IY. -/
def Obligations.Load16 : Prop :=
  ∀ s : State,
    let FromMemory (i : Instr) (nn : Word) (g : Regs) (cost : Nat) : Prop :=
      ∃ u, exec i s = .next u ∧ StoresNothing s u ∧
        u = { s with regs := g, t := s.t + s.cost i cost, draws := s.draws + wordDraws s nn, trace := u.trace }
    (∀ p nn, Completes (.ldPNn p nn) s 10 { s with regs := s.regs.setPair p nn }) ∧
    (∀ (x : Index) nn, Completes (x.sel (.ldIxNn nn) (.ldIyNn nn)) s 14
      { s with regs := s.regs.setIndex x nn }) ∧
    (∀ nn, FromMemory (.ldHlAtNn nn) nn (s.regs.setHl (wordAt s nn)) 16) ∧
    (∀ (x : Index) nn,
      FromMemory (x.sel (.ldIxAtNn nn) (.ldIyAtNn nn)) nn (s.regs.setIndex x (wordAt s nn)) 20) ∧
    (∀ p nn, FromMemory (.ldPAtNn p nn) nn (s.regs.setPair p (wordAt s nn)) 20) ∧
    Completes .ldSpHl s 6 { s with regs := { s.regs with sp := s.regs.hl } } ∧
    (∀ x : Index, Completes (x.sel .ldSpIx .ldSpIy) s 10
      { s with regs := { s.regs with sp := s.regs.getIndex x } })

/-- 41_load16.md R173, R174: a pair stored, low byte at the lower address; no register and no flag changes. -/
def Obligations.Store16 : Prop :=
  ∀ s : State, s.mem.wf = true →
    let Writes (i : Instr) (a v : Word) (cost : Nat) : Prop :=
      ∃ u, exec i s = .next u ∧ StoresWord s u a v ∧
        u = { s with t := s.t + s.cost i cost, mem := u.mem, trace := u.trace }
    (∀ nn, Writes (.ldAtNnHl nn) nn s.regs.hl 16) ∧
    (∀ (x : Index) nn, Writes (x.sel (.ldAtNnIx nn) (.ldAtNnIy nn)) nn (s.regs.getIndex x) 20) ∧
    (∀ p nn, Writes (.ldAtNnP p nn) nn (s.regs.getPair p) 20)

/-- 41_load16.md R176, R177, 20_memory.md R79: PUSH stores the pair below SP, POP reads it from SP; POP AF writes
all eight flags. -/
def Obligations.PushAndPop : Prop :=
  ∀ s : State, s.mem.wf = true →
    let Pushes (i : Instr) (v : Word) (cost : Nat) : Prop :=
      ∃ u, exec i s = .next u ∧ StoresWord s u (s.regs.sp - 2) v ∧
        u = { s with
          regs := { s.regs with sp := s.regs.sp - 2 }
          t := s.t + s.cost i cost, mem := u.mem, trace := u.trace }
    let Pops (i : Instr) (g : Regs) (f : Flags) (cost : Nat) : Prop :=
      ∃ u, exec i s = .next u ∧ StoresNothing s u ∧
        u = { s with
          regs := { g with sp := s.regs.sp + 2 }, flags := f, t := s.t + s.cost i cost
          draws := s.draws + wordDraws s s.regs.sp, trace := u.trace }
    let w := wordAt s s.regs.sp
    Pushes (.pushQ .bc) s.regs.bc 11 ∧ Pushes (.pushQ .de) s.regs.de 11 ∧
    Pushes (.pushQ .hl) s.regs.hl 11 ∧ Pushes (.pushQ .af) (mkWord s.regs.a s.flags.pack) 11 ∧
    (∀ x : Index, Pushes (x.sel .pushIx .pushIy) (s.regs.getIndex x) 15) ∧
    Pops (.popQ .bc) (s.regs.setBc w) s.flags 10 ∧ Pops (.popQ .de) (s.regs.setDe w) s.flags 10 ∧
    Pops (.popQ .hl) (s.regs.setHl w) s.flags 10 ∧
    Pops (.popQ .af) { s.regs with a := hiByte w } (Flags.unpack (loByte w)) 10 ∧
    (∀ x : Index, Pops (x.sel .popIx .popIy) (s.regs.setIndex x w) s.flags 14)

/-- 20_memory.md R79: where the two bytes below SP are RAM, PUSH q then POP q gives back the pair and SP. -/
def Obligations.PushThenPop : Prop :=
  ∀ (s t u : State) (q : StackPair), s.mem.wf = true →
    memKind s.platform (s.regs.sp - 1) = .ram → memKind s.platform (s.regs.sp - 2) = .ram →
    exec (.pushQ q) s = .next t → exec (.popQ q) t = .next u →
    u.getStackPair q = s.getStackPair q ∧ u.regs.sp = s.regs.sp ∧ u.regs = s.regs ∧ u.flags = s.flags

/-! ## Exchanges and block instructions -/

/-- 42_exchange_block.md R190 to R193: the exchanges. EX (SP) exchanges HL, IX or IY with the word at SP; SP does
not change. -/
def Obligations.Exchanges : Prop :=
  ∀ s : State, s.mem.wf = true →
    let Swaps (i : Instr) (v : Word) (g : Regs) (cost : Nat) : Prop :=
      ∃ u, exec i s = .next u ∧ StoresWord s u s.regs.sp v ∧
        u = { s with
          regs := g, t := s.t + s.cost i cost, draws := s.draws + wordDraws s s.regs.sp
          mem := u.mem, trace := u.trace }
    let w := wordAt s s.regs.sp
    Swaps .exAtSpHl s.regs.hl (s.regs.setHl w) 19 ∧
    (∀ x : Index, Swaps (x.sel .exAtSpIx .exAtSpIy) (s.regs.getIndex x) (s.regs.setIndex x w) 23) ∧
    Completes .exDeHl s 4 { s with
      regs := { s.regs with d := s.regs.h, e := s.regs.l, h := s.regs.d, l := s.regs.e } } ∧
    Completes .exAfAf s 4 { s with
      regs := { s.regs with a := s.regs.aAlt, aAlt := s.regs.a, fAlt := s.flags.pack }
      flags := Flags.unpack s.regs.fAlt } ∧
    Completes .exx s 4 { s with
      regs := { s.regs with
        b := s.regs.bAlt, c := s.regs.cAlt, d := s.regs.dAlt, e := s.regs.eAlt
        h := s.regs.hAlt, l := s.regs.lAlt
        bAlt := s.regs.b, cAlt := s.regs.c, dAlt := s.regs.d, eAlt := s.regs.e
        hAlt := s.regs.h, lAlt := s.regs.l } }

/-- 42_exchange_block.md R194 to R197: one step of LDI, LDIR, LDD and LDDR; the repeating forms go back by 2
while BC is not 0. -/
def Obligations.BlockLoad : Prop :=
  ∀ s : State, s.mem.wf = true →
    let v := peek s s.regs.hl
    let n := s.regs.a + v
    let bc := s.regs.bc - 1
    let Copies (i : Instr) (hl de : Word) (again : Bool) (cost : Nat) : Prop :=
      ∃ u, exec i s = .next u ∧ Stores s u s.regs.de v ∧
        u = { s with
          regs := ((s.regs.setHl hl).setDe de).setBc bc
          flags := { s.flags with
            yf := n.getLsbD 1, hf := false, xf := n.getLsbD 3, pf := decide (bc ≠ 0), nf := false }
          pc := if again then s.pc - 2 else s.pc
          t := s.t + cost
          draws := s.draws + drawsOf s s.regs.hl
          mem := u.mem, trace := u.trace }
    let more := decide (bc ≠ 0)
    Copies .ldi (s.regs.hl + 1) (s.regs.de + 1) false (s.cost .ldi 16) ∧
    Copies .ldir (s.regs.hl + 1) (s.regs.de + 1) more (repeatCost .ldir s more) ∧
    Copies .ldd (s.regs.hl - 1) (s.regs.de - 1) false (s.cost .ldd 16) ∧
    Copies .lddr (s.regs.hl - 1) (s.regs.de - 1) more (repeatCost .lddr s more)

/-- 42_exchange_block.md R198 to R201: one step of CPI, CPIR, CPD and CPDR; the repeating forms go back by 2
while BC is not 0 and the byte did not match. -/
def Obligations.BlockCompare : Prop :=
  ∀ s : State,
    let v := peek s s.regs.hl
    let r := s.regs.a - v
    let bc := s.regs.bc - 1
    let Compares (i : Instr) (hl : Word) (again : Bool) (cost : Nat) : Prop :=
      ∃ u f, exec i s = .next u ∧ StoresNothing s u ∧
        u = { s with
          regs := (s.regs.setHl hl).setBc bc
          flags := f
          pc := if again then s.pc - 2 else s.pc
          t := s.t + cost
          draws := s.draws + drawsOf s s.regs.hl
          trace := u.trace } ∧
        f.sf = r.getLsbD 7 ∧ (f.zf = true ↔ s.regs.a = v) ∧
        (f.hf = true ↔ s.regs.a.toNat % 16 < v.toNat % 16) ∧ f.pf = decide (bc ≠ 0) ∧ f.nf = true ∧
        f.cf = s.flags.cf ∧
        f.yf = (r - if f.hf then 1 else 0).getLsbD 1 ∧ f.xf = (r - if f.hf then 1 else 0).getLsbD 3
    let more := decide (bc ≠ 0 ∧ s.regs.a ≠ v)
    Compares .cpi (s.regs.hl + 1) false (s.cost .cpi 16) ∧
    Compares .cpir (s.regs.hl + 1) more (repeatCost .cpir s more) ∧
    Compares .cpd (s.regs.hl - 1) false (s.cost .cpd 16) ∧
    Compares .cpdr (s.regs.hl - 1) more (repeatCost .cpdr s more)

/-! ## 8-bit arithmetic and logic -/

/-- 43_alu8.md R220, R221, R224, R225, R234: ADD and ADC in every operand form. -/
def Obligations.AddGroup : Prop :=
  ∀ s : State,
    AluForms .addS .addN .addAtHl (fun x h => x.sel (.addIxHalf h) (.addIyHalf h))
      (fun x d => x.sel (.addAtIx d) (.addAtIy d))
      (fun i v s0 cost => ToA i s s0 cost (Sum8 s.regs.a v false)) s ∧
    AluForms .adcS .adcN .adcAtHl (fun x h => x.sel (.adcIxHalf h) (.adcIyHalf h))
      (fun x d => x.sel (.adcAtIx d) (.adcAtIy d))
      (fun i v s0 cost => ToA i s s0 cost (Sum8 s.regs.a v s.flags.cf)) s

/-- 43_alu8.md R220, R222, R226, R227, R234: SUB and SBC in every operand form. -/
def Obligations.SubtractGroup : Prop :=
  ∀ s : State,
    AluForms .subS .subN .subAtHl (fun x h => x.sel (.subIxHalf h) (.subIyHalf h))
      (fun x d => x.sel (.subAtIx d) (.subAtIy d))
      (fun i v s0 cost => ToA i s s0 cost (Difference8 s.regs.a v false)) s ∧
    AluForms .sbcS .sbcN .sbcAtHl (fun x h => x.sel (.sbcIxHalf h) (.sbcIyHalf h))
      (fun x d => x.sel (.sbcAtIx d) (.sbcAtIy d))
      (fun i v s0 cost => ToA i s s0 cost (Difference8 s.regs.a v s.flags.cf)) s

/-- 43_alu8.md R220, R223, R228, R229, R230: AND, XOR and OR in every operand form. -/
def Obligations.LogicGroup : Prop :=
  ∀ s : State,
    AluForms .andS .andN .andAtHl (fun x h => x.sel (.andIxHalf h) (.andIyHalf h))
      (fun x d => x.sel (.andAtIx d) (.andAtIy d))
      (fun i v s0 cost => ToA i s s0 cost fun res f => res = s.regs.a &&& v ∧ LogicFlags res true f) s ∧
    AluForms .xorS .xorN .xorAtHl (fun x h => x.sel (.xorIxHalf h) (.xorIyHalf h))
      (fun x d => x.sel (.xorAtIx d) (.xorAtIy d))
      (fun i v s0 cost => ToA i s s0 cost fun res f => res = s.regs.a ^^^ v ∧ LogicFlags res false f) s ∧
    AluForms .orS .orN .orAtHl (fun x h => x.sel (.orIxHalf h) (.orIyHalf h))
      (fun x d => x.sel (.orAtIx d) (.orAtIy d))
      (fun i v s0 cost => ToA i s s0 cost fun res f => res = s.regs.a ||| v ∧ LogicFlags res false f) s

/-- 43_alu8.md R220, R231: CP in every operand form; A is not written, Y and X come from the operand. -/
def Obligations.CompareGroup : Prop :=
  ∀ s : State,
    AluForms .cpS .cpN .cpAtHl (fun x h => x.sel (.cpIxHalf h) (.cpIyHalf h))
      (fun x d => x.sel (.cpAtIx d) (.cpAtIy d))
      (fun i v s0 cost =>
        ∃ f, Completes i s cost { s0 with flags := f } ∧ CompareFlags s.regs.a v f) s

/-- 43_alu8.md R232, R233, R234: INC and DEC of a register, an index half and a byte of memory; C unchanged. -/
def Obligations.IncDec8 : Prop :=
  ∀ s : State, s.mem.wf = true →
    let Steps (reg : Reg8 → Instr) (half : Index → Half → Instr) (atHl : Instr)
        (atIndex : Index → Byte → Instr) (op : Byte → Byte) (law : Byte → Flags → Flags → Prop) : Prop :=
      let OnMemory (i : Instr) (a : Word) (cost : Nat) : Prop :=
        ∃ u f, exec i s = .next u ∧ Stores s u a (op (peek s a)) ∧
          u = { s with
            flags := f, t := s.t + s.cost i cost, draws := s.draws + drawsOf s a
            mem := u.mem, trace := u.trace } ∧
          law (peek s a) s.flags f
      (∀ r, ∃ f, Completes (reg r) s 4 { s with regs := s.regs.set8 r (op (s.regs.get8 r)), flags := f } ∧
          law (s.regs.get8 r) s.flags f) ∧
      (∀ x h, ∃ f, Completes (half x h) s 8
          { s with regs := s.regs.setHalf x h (op (s.regs.getHalf x h)), flags := f } ∧
          law (s.regs.getHalf x h) s.flags f) ∧
      OnMemory atHl s.regs.hl 11 ∧
      (∀ x d, OnMemory (atIndex x d) (s.regs.indexed x d) 23)
    Steps .incR
      (fun x h => match h with | .hi => x.sel .incIxh .incIyh | .lo => x.sel .incIxl .incIyl)
      .incAtHl (fun x d => x.sel (.incAtIx d) (.incAtIy d)) (· + 1) IncrementFlags ∧
    Steps .decR
      (fun x h => match h with | .hi => x.sel .decIxh .decIyh | .lo => x.sel .decIxl .decIyl)
      .decAtHl (fun x d => x.sel (.decAtIx d) (.decAtIy d)) (· - 1) DecrementFlags

/-! ## General group -/

/-- 44_general.md R250: DAA, from the rule's own cases. -/
def Obligations.DecimalAdjust : Prop :=
  ∀ s : State,
    let a := s.regs.a.toNat
    let low := s.flags.hf = true ∨ 9 < a % 16
    let high := s.flags.cf = true ∨ 0x99 < a
    ∃ res f, Completes .daa s 4 { s with regs := { s.regs with a := res }, flags := f } ∧
      (∀ diff : Nat, (low → high → diff = 0x66) → (low → ¬high → diff = 0x06) →
        (¬low → high → diff = 0x60) → (¬low → ¬high → diff = 0) →
        (res.toNat : Int) = (if s.flags.nf then (a : Int) - diff else a + diff) % 256) ∧
      (f.hf = true ↔ if s.flags.nf then s.flags.hf = true ∧ a % 16 < 6 else 9 < a % 16) ∧
      (f.cf = true ↔ high) ∧ f.nf = s.flags.nf ∧ SignZeroFrom res f ∧ (f.pf = true ↔ EvenOnes res)

/-- The packed decimal form of a number below 100. -/
def Sys2Proof.Claim.packedDecimal (x : Nat) : Byte := BitVec.ofNat 8 (x / 10 * 16 + x % 10)

/-- 44_general.md R250 with 43_alu8.md R225, R227: DAA after ADC of two packed decimal bytes gives the packed
decimal sum and carry, and after SBC the packed decimal difference and borrow. -/
def Obligations.DecimalArithmetic : Prop :=
  ∀ (s t u : State) (x y : Nat), x < 100 → y < 100 → s.regs.a = packedDecimal x →
    exec .daa t = .next u →
    (exec (.adcN (packedDecimal y)) s = .next t →
      u.flags.cf = decide (100 ≤ x + y + s.flags.cf.toNat) ∧
      u.regs.a = packedDecimal ((x + y + s.flags.cf.toNat) % 100)) ∧
    (exec (.sbcN (packedDecimal y)) s = .next t →
      u.flags.cf = decide (x < y + s.flags.cf.toNat) ∧
      u.regs.a = packedDecimal ((x + 100 - y - s.flags.cf.toNat) % 100))

/-- 44_general.md R251 to R254: CPL, NEG (every encoding), CCF and SCF. -/
def Obligations.AccumulatorOps : Prop :=
  ∀ s : State,
    (∃ v : Byte, v.toNat = 255 - s.regs.a.toNat ∧ Completes .cpl s 4 { s with
      regs := { s.regs with a := v }
      flags := { s.flags with yf := v.getLsbD 5, hf := true, xf := v.getLsbD 3, nf := true } }) ∧
    (∀ x, ToA (.neg x) s s 8 (Difference8 0 s.regs.a false)) ∧
    Completes .ccf s 4 { s with
        flags := { s.flags with
          yf := s.regs.a.getLsbD 5, hf := s.flags.cf, xf := s.regs.a.getLsbD 3, nf := false
          cf := !s.flags.cf } } ∧
    Completes .scf s 4 { s with
        flags := { s.flags with
          yf := s.regs.a.getLsbD 5, hf := false, xf := s.regs.a.getLsbD 3, nf := false, cf := true } }

/-- 44_general.md R255 to R262: NOP, HALT, DI, EI, the IM instructions in every encoding, and the undefined ED
opcodes. -/
def Obligations.CpuControl : Prop :=
  ∀ s : State,
    Completes .nop s 4 s ∧
    Completes .halt s 4 { s with halted := true } ∧
    Completes .di s 4 { s with iff1 := false, iff2 := false, eidi := true } ∧
    Completes .ei s 4 { s with iff1 := true, iff2 := true, eidi := true } ∧
    (∀ x1 x0, Completes (.im0 x1 x0) s 8 { s with im := .im0 }) ∧
    (∀ x1, Completes (.im1 x1) s 8 { s with im := .im1 }) ∧
    (∀ x1, Completes (.im2 x1) s 8 { s with im := .im2 }) ∧
    (∀ op, Completes (.nopEd op) s 8 s)

/-! ## 16-bit arithmetic -/

/-- 45_alu16.md R270 to R274: ADD, ADC, SBC, INC and DEC of pairs. ADD leaves S, Z and P; INC and DEC leave every
flag. -/
def Obligations.Arithmetic16 : Prop :=
  ∀ s : State,
    let Adds (i : Instr) (a b : Word) (g : Word → Regs) (cost : Nat) : Prop :=
      ∃ res f, Completes i s cost { s with regs := g res, flags := f } ∧
        (∃ f16, Sum16 a b false res f16 ∧
          f = { s.flags with hf := f16.hf, nf := false, cf := f16.cf, yf := f16.yf, xf := f16.xf })
    (∀ p, Adds (.addHlP p) s.regs.hl (s.regs.getPair p) s.regs.setHl 11) ∧
    (∀ (x : Index) p, Adds (x.sel (.addIxP p) (.addIyP p)) (s.regs.getIndex x) (s.regs.getXPair x p)
      (s.regs.setIndex x) 15) ∧
    (∀ p, ∃ res f, Completes (.adcHlP p) s 15 { s with regs := s.regs.setHl res, flags := f } ∧
      Sum16 s.regs.hl (s.regs.getPair p) s.flags.cf res f) ∧
    (∀ p, ∃ res f, Completes (.sbcHlP p) s 15 { s with regs := s.regs.setHl res, flags := f } ∧
      Difference16 s.regs.hl (s.regs.getPair p) s.flags.cf res f) ∧
    (∀ p, Completes (.incP p) s 6 { s with regs := s.regs.setPair p (s.regs.getPair p + 1) }) ∧
    (∀ p, Completes (.decP p) s 6 { s with regs := s.regs.setPair p (s.regs.getPair p - 1) }) ∧
    (∀ x : Index, Completes (x.sel .incIx .incIy) s 10
      { s with regs := s.regs.setIndex x (s.regs.getIndex x + 1) }) ∧
    (∀ x : Index, Completes (x.sel .decIx .decIy) s 10
      { s with regs := s.regs.setIndex x (s.regs.getIndex x - 1) })

/-! ## Rotates, shifts and bits -/

/-- 46_rotate_shift.md R290 to R302: the accumulator rotates (S, Z and P unchanged), and the CB-page rotates and
shifts on a register (rotReg: rlcR, rrcR, rlR, rrR, slaR, sraR, sllR, srlR), on (HL) (rotAtHl: rlcAtHl to srlAtHl),
on (IX+d) and (IY+d) (rlcAtIx to srlAtIx, rlcAtIy to srlAtIy), and with the copy to a register (rlcAtIxR to
srlAtIxR, rlcAtIyR to srlAtIyR). -/
def Obligations.RotateShift : Prop :=
  ∀ s : State, s.mem.wf = true →
    let OnA (i : Instr) (op : RotOp) : Prop :=
      ∃ res out, RotateLaw op s.regs.a s.flags.cf res out ∧ Completes i s 4 { s with
          regs := { s.regs with a := res }
          flags := { s.flags with
            yf := res.getLsbD 5, hf := false, xf := res.getLsbD 3, nf := false, cf := out } }
    let OnMemory (i : Instr) (op : RotOp) (a : Word) (cost : Nat) (g : Byte → Regs) : Prop :=
      ∃ u f res out, RotateLaw op (peek s a) s.flags.cf res out ∧ RotateFlags res out f ∧
        exec i s = .next u ∧ Stores s u a res ∧
        u = { s with
          regs := g res, flags := f, t := s.t + s.cost i cost, draws := s.draws + drawsOf s a
          mem := u.mem, trace := u.trace }
    OnA .rlca .rlc ∧ OnA .rla .rl ∧ OnA .rrca .rrc ∧ OnA .rra .rr ∧
    (∀ op r, ∃ f res out, RotateLaw op (s.regs.get8 r) s.flags.cf res out ∧ RotateFlags res out f ∧
      Completes (rotReg (rotCode op) r) s 8 { s with regs := s.regs.set8 r res, flags := f }) ∧
    (∀ op, OnMemory (rotAtHl (rotCode op)) op s.regs.hl 15 fun _ => s.regs) ∧
    (∀ op (x : Index) d, OnMemory (x.sel (rotAtIx (rotCode op) d) (rotAtIy (rotCode op) d)) op
      (s.regs.indexed x d) 23 fun _ => s.regs) ∧
    (∀ op (x : Index) d r, OnMemory (x.sel (rotAtIxR (rotCode op) d r) (rotAtIyR (rotCode op) d r)) op
      (s.regs.indexed x d) 23 fun res => s.regs.set8 r res)

/-- 46_rotate_shift.md R303, R304: RLD and RRD. -/
def Obligations.DigitRotate : Prop :=
  ∀ s : State, s.mem.wf = true →
    let v := peek s s.regs.hl
    let Rotates (i : Instr) (a m : Nat) : Prop :=
      ∃ u f, exec i s = .next u ∧ Stores s u s.regs.hl (BitVec.ofNat 8 m) ∧
        u = { s with
          regs := { s.regs with a := BitVec.ofNat 8 a }, flags := f, t := s.t + s.cost i 18
          draws := s.draws + drawsOf s s.regs.hl, mem := u.mem, trace := u.trace } ∧
        ByteFlags (BitVec.ofNat 8 a) s.flags f
    let hi := s.regs.a.toNat / 16
    let lo := s.regs.a.toNat % 16
    Rotates .rld (hi * 16 + v.toNat / 16) (v.toNat % 16 * 16 + lo) ∧
    Rotates .rrd (hi * 16 + v.toNat % 16) (lo * 16 + v.toNat / 16)

/-- 47_bit.md R320, R321, R322: BIT, SET and RES in every operand form, with the copy to a register. -/
def Obligations.BitSetReset : Prop :=
  ∀ s : State, s.mem.wf = true →
    let Tests (b : BitVec 3) (v : Byte) (f : Flags) : Prop :=
      (f.zf = true ↔ v.toNat / 2 ^ b.toNat % 2 = 0) ∧ f.pf = f.zf ∧
      (f.sf = true ↔ b = 7 ∧ 128 ≤ v.toNat) ∧
      f.hf = true ∧ f.nf = false ∧ f.yf = v.getLsbD 5 ∧ f.xf = v.getLsbD 3 ∧ f.cf = s.flags.cf
    let TestsMemory (i : Instr) (b : BitVec 3) (a : Word) (cost : Nat) : Prop :=
      ∃ u f, exec i s = .next u ∧ StoresNothing s u ∧ Tests b (peek s a) f ∧
        u = { s with
          flags := f, t := s.t + s.cost i cost, draws := s.draws + drawsOf s a, trace := u.trace }
    let Changed (b : BitVec 3) (on : Bool) (v res : Byte) : Prop :=
      ∀ k < 8, res.getLsbD k = if k = b.toNat then on else v.getLsbD k
    let ChangesMemory (i : Instr) (b : BitVec 3) (on : Bool) (a : Word) (cost : Nat) (g : Byte → Regs) : Prop :=
      ∃ u res, exec i s = .next u ∧ Changed b on (peek s a) res ∧ Stores s u a res ∧
        u = { s with
          regs := g res, t := s.t + s.cost i cost, draws := s.draws + drawsOf s a, mem := u.mem, trace := u.trace }
    let Changes (on : Bool) (reg : BitVec 3 → Reg8 → Instr) (atHl : BitVec 3 → Instr)
        (atIndex : Index → BitVec 3 → Byte → Instr) (copy : Index → BitVec 3 → Byte → Reg8 → Instr) : Prop :=
      (∀ b r, ∃ res, Changed b on (s.regs.get8 r) res ∧
        Completes (reg b r) s 8 { s with regs := s.regs.set8 r res }) ∧
      (∀ b, ChangesMemory (atHl b) b on s.regs.hl 15 fun _ => s.regs) ∧
      (∀ x b d, ChangesMemory (atIndex x b d) b on (s.regs.indexed x d) 23 fun _ => s.regs) ∧
      (∀ x b d r, ChangesMemory (copy x b d r) b on (s.regs.indexed x d) 23 fun res => s.regs.set8 r res)
    (∀ b r, ∃ f, Tests b (s.regs.get8 r) f ∧
      Completes (.bitR b r) s 8 { s with flags := f }) ∧
    (∀ b, TestsMemory (.bitAtHl b) b s.regs.hl 12) ∧
    (∀ (x : Index) b d z,
      TestsMemory (x.sel (.bitAtIx b d z) (.bitAtIy b d z)) b (s.regs.indexed x d) 20) ∧
    Changes true .setR .setAtHl (fun x b d => x.sel (.setAtIx b d) (.setAtIy b d))
      (fun x b d r => x.sel (.setAtIxR b d r) (.setAtIyR b d r)) ∧
    Changes false .resR .resAtHl (fun x b d => x.sel (.resAtIx b d) (.resAtIy b d))
      (fun x b d r => x.sel (.resAtIxR b d r) (.resAtIyR b d r))

/-! ## Jumps, calls and returns -/

/-- 48_jump_call_return.md R340 to R345: the jumps; no flag and no register but B of DJNZ changes. -/
def Obligations.Jumps : Prop :=
  ∀ s : State,
    let Goes (i : Instr) (pc : Word) (cost : Nat) : Prop :=
      Completes i s cost { s with pc := pc }
    let target (e : Byte) : Word := BitVec.ofInt 16 (s.pc.toNat + e.toInt)
    (∀ nn, Goes (.jp nn) nn 10) ∧
    (∀ cc nn, (Holds s.flags cc → Goes (.jpC cc nn) nn 10) ∧
      (¬Holds s.flags cc → Goes (.jpC cc nn) s.pc 10)) ∧
    (∀ e, Goes (.jr e) (target e) 12) ∧
    (∀ cc e, (JrHolds s.flags cc → Goes (.jrC cc e) (target e) 12) ∧
      (¬JrHolds s.flags cc → CompletesNot (.jrC cc e) s 7 s)) ∧
    Goes .jpHl s.regs.hl 4 ∧ (∀ x : Index, Goes (x.sel .jpIx .jpIy) (s.regs.getIndex x) 8) ∧
    (∀ e, (s.regs.b ≠ 1 → Completes (.djnz e) s 13
        { s with regs := { s.regs with b := s.regs.b - 1 }, pc := target e }) ∧
      (s.regs.b = 1 → CompletesNot (.djnz e) s 8 { s with regs := { s.regs with b := 0 } }))

/-- 48_jump_call_return.md R346 to R349, R352: CALL and RST push PC and jump; RET pops PC; the conditional forms
do it when the condition holds and do nothing else. -/
def Obligations.CallsAndReturns : Prop :=
  ∀ s : State, s.mem.wf = true →
    let Calls (i : Instr) (a : Word) (cost : Nat) : Prop :=
      ∃ u, exec i s = .next u ∧ StoresWord s u (s.regs.sp - 2) s.pc ∧
        u = { s with
          regs := { s.regs with sp := s.regs.sp - 2 }, pc := a, t := s.t + s.cost i cost
          mem := u.mem, trace := u.trace }
    let Returns (i : Instr) (cost : Nat) : Prop :=
      ∃ u, exec i s = .next u ∧ StoresNothing s u ∧
        u = { s with
          regs := { s.regs with sp := s.regs.sp + 2 }, pc := wordAt s s.regs.sp, t := s.t + s.cost i cost
          draws := s.draws + wordDraws s s.regs.sp, trace := u.trace }
    (∀ nn, Calls (.call nn) nn 17) ∧
    (∀ cc nn, (Holds s.flags cc → Calls (.callC cc nn) nn 17) ∧
      (¬Holds s.flags cc → CompletesNot (.callC cc nn) s 10 s)) ∧
    (∀ k, Calls (.rst k) (BitVec.ofNat 16 (8 * k.toNat)) 11) ∧
    Returns .ret 10 ∧
    (∀ cc, (Holds s.flags cc → Returns (.retC cc) 11) ∧
      (¬Holds s.flags cc → CompletesNot (.retC cc) s 5 s))

/-- 48_jump_call_return.md R350, R351, 60_exceptions.md R415: RETI and RETN pop PC and restore IFF1 from IFF2;
RETI ends the service of the first source in service and of no other, RETN of none. -/
def Obligations.InterruptReturn : Prop :=
  ∀ s : State,
    let After (i : Instr) (u : State) : Prop :=
      StoresNothing s u ∧
      u = { s with
        regs := { s.regs with sp := s.regs.sp + 2 }, pc := wordAt s s.regs.sp, iff1 := s.iff2
        t := s.t + s.cost i 14, draws := s.draws + wordDraws s s.regs.sp
        ctcs := u.ctcs, pios := u.pios, trace := u.trace }
    (∃ u, exec .reti s = .next u ∧ After .reti u ∧
      ((∀ id ∈ s.platform.intSources, sourceAccepted s id = false) → u.ctcs = s.ctcs ∧ u.pios = s.pios) ∧
      (∀ before id after, s.platform.intSources = before ++ id :: after → sourceAccepted s id = true →
        (∀ x ∈ before, sourceAccepted s x = false) →
        u.ctcs = (sourceFinish id s).ctcs ∧ u.pios = (sourceFinish id s).pios)) ∧
    (∀ x, ∃ u, exec (.retn x) s = .next u ∧ After (.retn x) u ∧ u.ctcs = s.ctcs ∧ u.pios = s.pios)

/-! ## Input and output -/

/-- 49_io.md R370 to R375, 20_memory.md R65: the single transfers. -/
def Obligations.PortInOut : Prop :=
  ∀ s : State,
    let atC := ioRead s.regs.bc s
    (∀ n, Completes (.inAN n) s 11
      (let p := ioRead (mkWord s.regs.a n) s
       { p.2 with regs := { s.regs with a := p.1 }, t := s.t })) ∧
    (∀ r, ∃ f, Completes (.inRC r) s 12
        { atC.2 with regs := s.regs.set8 r atC.1, flags := f, t := s.t } ∧ ByteFlags atC.1 s.flags f) ∧
    (∃ f, Completes .inC s 12 { atC.2 with flags := f, t := s.t } ∧ ByteFlags atC.1 s.flags f) ∧
    (∀ n, Completes (.outNA n) s 11 { ioWrite (mkWord s.regs.a n) s.regs.a s with t := s.t }) ∧
    (∀ r, Completes (.outCR r) s 12 { ioWrite s.regs.bc (s.regs.get8 r) s with t := s.t }) ∧
    Completes .outC0 s 12 { ioWrite s.regs.bc 0x00 s with t := s.t }

/-- 20_memory.md R66, 61_ctc.md R452, R458, 62_pio.md R492, R501: what a port access reaches. A read of a CTC
channel gives its counter modulo 256 and changes nothing; a read of a PIO data register gives what the port
gives; a read of a PIO control register and a read of another device give the next free value (log 4), and a write to
another device reaches no chip; a read that no device answers gives IO_UNMAPPED, the next free value where the platform
names none; an access changes no register, flag or byte of memory. -/
def Obligations.PortAccess : Prop :=
  ∀ (s : State) (p : Word) (v : Byte),
    let r := ioRead p s
    let w := ioWrite p v s
    (r.2 = { s with pios := r.2.pios, draws := r.2.draws, trace := r.2.trace }) ∧
    (w = { s with ctcs := w.ctcs, pios := w.pios, trace := w.trace }) ∧
    (∀ k n c, portTarget s.platform p = some (.ctc k n) → s.ctcs[k]? = some c →
      r.1.toNat = (c.chan n).counter % 256 ∧ r.2.draws = s.draws ∧ r.2.pios = s.pios ∧
      w.ctcs = s.ctcs.set k (c.write n v) ∧ w.pios = s.pios) ∧
    (∀ k x q, portTarget s.platform p = some (.pioData k x) → s.pios[k]? = some q →
      r.1 = (q.dataRead x).1 ∧ r.2.pios = s.pios.set k (q.dataRead x).2 ∧ r.2.draws = s.draws ∧
      w.pios = s.pios.set k (q.dataWrite x v) ∧ w.ctcs = s.ctcs) ∧
    (∀ k x q, portTarget s.platform p = some (.pioControl k x) → s.pios[k]? = some q →
      r.1 = Config.freeByte s.draws ∧ r.2.draws = s.draws + 1 ∧ r.2.pios = s.pios ∧
      w.pios = s.pios.set k (q.controlWrite x v) ∧ w.ctcs = s.ctcs) ∧
    (portTarget s.platform p = some .device →
      r.1 = Config.freeByte s.draws ∧ r.2.draws = s.draws + 1 ∧ r.2.pios = s.pios ∧
      w.ctcs = s.ctcs ∧ w.pios = s.pios) ∧
    (answers s p = false →
      (∀ x, s.platform.ioUnmapped = some x → r.1 = x ∧ r.2.draws = s.draws) ∧
      (s.platform.ioUnmapped = none → r.1 = Config.freeByte s.draws ∧ r.2.draws = s.draws + 1) ∧
      r.2.pios = s.pios ∧ w.ctcs = s.ctcs ∧ w.pios = s.pios)

/-- 49_io.md R376 to R384: one step of each block I/O instruction; the repeating forms go back by 2 while B is
not 0; OUTI and its kin decrement B before the port is written. -/
def Obligations.BlockIo : Prop :=
  ∀ s : State, s.mem.wf = true →
    let g := s.regs
    let b := g.b - 1
    let Reads (i : Instr) (hl : Word) (c : Byte) (again : Bool) (cost : Nat) : Prop :=
      let p := ioRead g.bc s
      ∃ u f, exec i s = .next u ∧ Stores s u g.hl p.1 ∧
        u = { p.2 with
          regs := { g.setHl hl with b := b }, flags := f
          pc := if again then s.pc - 2 else s.pc
          t := s.t + cost
          mem := u.mem, trace := u.trace } ∧
        BlockIoFlags b p.1 (p.1.toNat + c.toNat) f
    let Writes (i : Instr) (hl : Word) (again : Bool) (cost : Nat) : Prop :=
      let v := peek s g.hl
      let w := ioWrite (mkWord b g.c) v (memRead g.hl s).2
      ∃ u f, exec i s = .next u ∧ StoresNothing s u ∧
        u = { w with
          regs := { g.setHl hl with b := b }, flags := f
          pc := if again then s.pc - 2 else s.pc
          t := s.t + cost } ∧
        BlockIoFlags b v (v.toNat + (loByte hl).toNat) f
    let more := decide (b ≠ 0)
    Reads .ini (g.hl + 1) (g.c + 1) false (s.cost .ini 16) ∧
    Reads .inir (g.hl + 1) (g.c + 1) more (repeatCost .inir s more) ∧
    Reads .ind (g.hl - 1) (g.c - 1) false (s.cost .ind 16) ∧
    Reads .indr (g.hl - 1) (g.c - 1) more (repeatCost .indr s more) ∧
    Writes .outi (g.hl + 1) false (s.cost .outi 16) ∧
    Writes .otir (g.hl + 1) more (repeatCost .otir s more) ∧
    Writes .outd (g.hl - 1) false (s.cost .outd 16) ∧
    Writes .otdr (g.hl - 1) more (repeatCost .otdr s more)

/-! ## Prefixes -/

/-- 30_encoding.md R102, R105 to R109, R111: an ignored prefix adds its T-states (4 by default) to the base
instruction; a prefix before a prefix takes its T-states (4 by default), changes nothing else and sets afterPrefix;
after a prefix alone, decoding goes on with the bytes at PC: the instruction that the prefix and they make is
fetched to its end and executed. Each completes. The prefix rows are prefixCb, prefixDd, prefixEd, prefixFd,
prefixDdCb and prefixFdCb (log 12). -/
def Obligations.Prefixes : Prop :=
  ∀ s : State,
    (∀ base : Instr, base.ignoresIndex = true →
      exec (.ddIgnored base) s = exec base { s with t := s.t + s.cost (.ddIgnored base) 4 } ∧
      exec (.fdIgnored base) s = exec base { s with t := s.t + s.cost (.fdIgnored base) 4 } ∧
      (∃ u, exec (.ddIgnored base) s = .next u) ∧ ∃ u, exec (.fdIgnored base) s = .next u) ∧
    (∀ i : Instr, i = .ddThenDd ∨ i = .ddThenFd ∨ i = .ddThenEd ∨ i = .fdThenDd ∨ i = .fdThenFd ∨
        i = .fdThenEd →
      Completes i s 4 { s with afterPrefix := true }) ∧
    (∀ row : Instr, row.isPrefixRow = true →
      ∃ j rest u, decode (encode row ++ window s s.pc 3) = .ok j rest ∧ j.isPrefixRow = false ∧
        exec row s = exec j (fetchCode (encode row).length j.code s) ∧ exec row s = .next u)

/-! ## The CTC and PIO chips -/

/-- 61_ctc.md R453 to R457: the register protocol of a channel. -/
def Obligations.CtcRegisters : Prop :=
  ∀ (c : Ctc) (n : Chan) (v : Byte),
    let x := c.chan n
    let y := (c.write n v).chan n
    (∀ m, m ≠ n → (c.write n v).chan m = c.chan m) ∧
    (x.waitTC = true →
      y.reload = (if v = 0 then 256 else v.toNat) ∧ y.waitTC = false ∧
      (c.write n v).vecbase = c.vecbase ∧
      (x.running = true ∨ x.armed = true →
        y = { x with reload := y.reload, waitTC := false }) ∧
      (x.running = false → x.armed = false →
        y = { x with
          reload := y.reload, waitTC := false, counter := y.reload
          pre := match x.div with | .by16 => 16 | .by256 => 256
          running := x.counterMode || !x.trigWait, armed := !x.counterMode && x.trigWait })) ∧
    (x.waitTC = false → v.getLsbD 0 = true →
      (c.write n v).vecbase = c.vecbase ∧
      y = { x with
        ie := v.getLsbD 7, counterMode := v.getLsbD 6, div := if v.getLsbD 5 then .by256 else .by16
        rising := v.getLsbD 4, trigWait := v.getLsbD 3, waitTC := v.getLsbD 2
        running := x.running && !v.getLsbD 1, armed := x.armed && !v.getLsbD 1
        req := x.req && v.getLsbD 7 }) ∧
    (x.waitTC = false → v.getLsbD 0 = false →
      y = x ∧ (c.write n v).vecbase.toNat = v.toNat / 8 * 8)

/-- 61_ctc.md R459, R463: a timer channel with time constant k and divisor p rolls over for the first time
exactly k * p T-states after its start: then it is reloaded and requests if its interrupt is enabled; before
that it does not, and its zero count is seen once. -/
def Obligations.CtcTimerPeriod : Prop :=
  ∀ (c : Ctc) (n : Chan) (k p : Nat),
    let x := c.chan n
    x.running = true → x.counterMode = false → x.counter = k → x.reload = k → x.pre = p →
    (x.div = .by16 ∧ p = 16 ∨ x.div = .by256 ∧ p = 256) → 1 ≤ k →
    (∀ m < k * p, ∃ r, Ctc.tick .unwired m { chip := c, zeroCounts := [] } = some r ∧
      (r.chip.chan n).req = x.req ∧ n ∉ r.zeroCounts) ∧
    ∃ r, Ctc.tick .unwired (k * p) { chip := c, zeroCounts := [] } = some r ∧
      r.chip.chan n = { x with req := x.req || x.ie } ∧ r.zeroCounts.count n = 1

/-- 61_ctc.md R459, R460, R461, R462, R463, R464: an active edge starts an armed channel without counting,
decrements a running counter-mode channel, and does nothing else; a level change that is no active edge only sets
the level; a T-state takes 1 from the prescaler of a running timer channel and, at zero, reloads it and decrements
the channel. A rollover pulses the chained channel at once; where every chained output goes to a higher-numbered
channel, each of these completes. The start of an armed channel in counter mode sets its prescaler: the model's
choice (log 19). -/
def Obligations.CtcTrigger : Prop :=
  (∀ (c : Ctc) (n : Chan) (l : Bool),
      let x := c.chan n
      let edge := if x.rising then x.level = false ∧ l = true else x.level = true ∧ l = false
      let start : CtcRun := { chip := c, zeroCounts := [] }
      let x1 : Channel := { x with level := l }
      ∃ r, Ctc.setLevel .unwired n l start = some r ∧ (∀ m, m ≠ n → r.chip.chan m = c.chan m) ∧
        (¬edge → r.chip.chan n = x1 ∧ r.zeroCounts = []) ∧
        (edge → x.armed = true →
          r.chip.chan n = { x1 with
            armed := false, running := true, pre := match x.div with | .by16 => 16 | .by256 => 256 } ∧
          r.zeroCounts = []) ∧
        (edge → x.armed = false → x.running = true → x.counterMode = true → 2 ≤ x.counter →
          r.chip.chan n = { x1 with counter := x.counter - 1 } ∧ r.zeroCounts = []) ∧
        (edge → x.armed = false → x.running = true → x.counterMode = true → x.counter = 1 →
          r.chip.chan n = { x1 with counter := x.reload, req := x.req || x.ie } ∧ r.zeroCounts = [n]) ∧
        (edge → x.armed = false → ¬(x.running = true ∧ x.counterMode = true) →
          r.chip.chan n = x1 ∧ r.zeroCounts = [])) ∧
  (∀ (w : Chain) (c : Ctc) (n : Chan) (l : Bool) (seen : List Chan), c.inRange →
    let x := c.chan n
    let a : CtcRun := { chip := c, zeroCounts := seen }
    let edge := if x.rising then x.level = false ∧ l = true else x.level = true ∧ l = false
    let leveled : CtcRun := { a with chip := c.setChan n { x with level := l } }
    let down : CtcRun := { a with chip := c.setChan n { x with pre := x.pre - 1 } }
    let reloaded : CtcRun :=
      { a with chip := c.setChan n { x with pre := match x.div with | .by16 => 16 | .by256 => 256 } }
    (edge → Ctc.setLevel w n l a = Ctc.pulse w n leveled) ∧
    (¬edge → Ctc.setLevel w n l a = some leveled) ∧
    (x.armed = true → Ctc.pulse w n a = some (startedChan n a)) ∧
    (x.armed = false → ¬countsEdges x → Ctc.pulse w n a = some a) ∧
    (countsEdges x → (∀ b, Ctc.pulse w n a = some b → Counted w n a b) ∧
      (Upward w → ∃ b, Ctc.pulse w n a = some b)) ∧
    (x.running = true → x.counterMode = false → 2 ≤ x.pre → Ctc.tickChan w n a = some down) ∧
    (x.running = true → x.counterMode = false → x.pre = 1 →
      (∀ b, Ctc.tickChan w n a = some b → Counted w n reloaded b) ∧
      (Upward w → ∃ b, Ctc.tickChan w n a = some b)) ∧
    (¬(x.running = true ∧ x.counterMode = false) → Ctc.tickChan w n a = some a))

/-- 61_ctc.md R466, R467, R468, 62_pio.md R507, R508, R509: a chip is in service or requests as its first active
channel or port says: the lowest-numbered active channel, port A before port B. A chip that requests is accepted at
that one, gives its vector, is then in service and requests no more; finishing a chip's service clears the accepted
flag of its lowest-numbered channel or first port that has it, and changes nothing else. -/
def Obligations.SourceService : Prop :=
  (∀ c : Ctc,
    let active (n : Chan) : Prop :=
      (c.chan n).acc = true ∨ ((c.chan n).req = true ∧ (c.chan n).ie = true)
    let isFirst (n : Chan) : Prop := active n ∧ ∀ m, chanIndex m < chanIndex n → ¬active m
    (∀ n, c.first = some n ↔ isFirst n) ∧
    (c.hasBeenAccepted = true ↔ ∃ n, isFirst n ∧ (c.chan n).acc = true) ∧
    (c.hasRequest = true ↔ ∃ n, isFirst n ∧ (c.chan n).acc = false) ∧
    (c.hasRequest = true →
      ∃ n, isFirst n ∧ c.accept.1 = (c.vecbase ||| BitVec.ofNat 8 (2 * chanIndex n)) ∧
        c.accept.2 = c.setChan n { c.chan n with req := false, acc := true } ∧
        c.accept.2.hasBeenAccepted = true ∧ c.accept.2.hasRequest = false ∧
        c.accept.2.finish = c.setChan n { c.chan n with req := false }) ∧
    (∀ n, (c.chan n).acc = true → (∀ m, chanIndex m < chanIndex n → (c.chan m).acc = false) →
      c.finish = c.setChan n { c.chan n with acc := false }) ∧
    ((∀ n, (c.chan n).acc = false) → c.finish = c)) ∧
  (∀ p : Pio,
    let active (x : PortId) : Prop :=
      (p.port x).acc = true ∨ ((p.port x).req = true ∧ (p.port x).ie = true)
    let isFirst (x : PortId) : Prop := active x ∧ (x = .b → ¬active .a)
    (∀ x, p.first = some x ↔ isFirst x) ∧
    (p.hasBeenAccepted = true ↔ ∃ x, isFirst x ∧ (p.port x).acc = true) ∧
    (p.hasRequest = true ↔ ∃ x, isFirst x ∧ (p.port x).acc = false) ∧
    (p.hasRequest = true →
      ∃ x, isFirst x ∧ p.accept.1 = (p.port x).vector ∧
        p.accept.2 = p.setPort x { p.port x with req := false, acc := true } ∧
        p.accept.2.hasBeenAccepted = true ∧ p.accept.2.hasRequest = false ∧
        p.accept.2.finish = p.setPort x { p.port x with req := false }) ∧
    (∀ x, (p.port x).acc = true → (x = .b → p.a.acc = false) →
      p.finish = p.setPort x { p.port x with acc := false }) ∧
    (p.a.acc = false → p.b.acc = false → p.finish = p))

/-- 62_pio.md R493 to R499, R500 to R506: the control protocol, the data path and the handshake of a port in every
mode. A control byte is the awaited mask whatever its bits, else a vector, a mode word, an interrupt control word,
an interrupt enable word or nothing, changes only its own port, and never raises a request; a data write, a data
read, the peripheral's fetch and its strobe act as the mode says, those of port A in mode 2 with port B's input
handshake (mode 2 of port B is mode 0 in its data path); in mode 3 a data write or an input change requests exactly
on the transition into the condition, with the interrupt enabled and port B not serving port A. -/
def Obligations.PioProtocol : Prop :=
  ∀ (p : Pio) (x : PortId) (v : Byte),
    let q := p.port x
    let coupled : Prop := x = .b ∧ p.a.mode = .byteBidir
    let read := p.dataRead x
    let fetched := p.fetchOut x
    OnlyPort p (p.controlWrite x v) x (ControlLaw q v) ∧
    (∀ y, ((p.controlWrite x v).port y).req = true → (p.port y).req = true) ∧
    OnlyPort p (p.dataWrite x v) x (fun r =>
      match q.mode with
      | .byteOut => r = { q with out := v, ready := true }
      | .byteIn => r = { q with out := v }
      | .byteBidir => r = { q with out := v, ready := true }
      | .bitMode => Evaluates coupled { q with out := v } r) ∧
    (match q.mode, x with
      | .byteOut, _ => read = (q.out, p)
      | .byteIn, _ => read.1 = q.inp ∧ OnlyPort p read.2 x (· = { q with ready := true })
      | .byteBidir, .a => read.1 = q.inp ∧ OnlyPort p read.2 .b (· = { p.b with ready := true })
      | .byteBidir, .b => read = (q.out, p)
      | .bitMode, _ => (∀ i < 8, read.1.getLsbD i = visibleLine q i) ∧ read.2 = p) ∧
    (match q.mode with
      | .byteOut => fetched.1 = q.out ∧ OnlyPort p fetched.2 x (· = strobed q)
      | .byteIn => fetched = (q.out, p)
      | .byteBidir => fetched.1 = q.out ∧ OnlyPort p fetched.2 x (· = strobed q)
      | .bitMode => (∀ i < 8, fetched.1.getLsbD i = visibleLine q i) ∧ fetched.2 = p) ∧
    (match q.mode, x with
      | .byteOut, _ => OnlyPort p (p.putIn x v) x (· = { q with inp := v })
      | .byteIn, _ => OnlyPort p (p.putIn x v) x (· = strobed { q with inp := v })
      | .byteBidir, .a => (p.putIn x v).a = { q with inp := v } ∧ (p.putIn x v).b = strobed p.b
      | .byteBidir, .b => OnlyPort p (p.putIn x v) x (· = { q with inp := v })
      | .bitMode, _ => OnlyPort p (p.putIn x v) x (Evaluates coupled { q with inp := v }))
end

