-- ==== Sys2Proof/Laws/Chips.lean ====
section
/-! SUPPORT. The CTC and PIO chips: reading a channel or a port after one is replaced, and what the operations
that can count leave (spec/61_ctc.md R450, R463, R464; 62_pio.md R490). -/

namespace Sys2Proof.Machine

@[simp] theorem Ctc.chan_setChan (c : Ctc) (n m : Chan) (x : Channel) :
    (c.setChan n x).chan m = if m = n then x else c.chan m := by
  cases n <;> cases m <;> rfl

@[simp] theorem Ctc.setChan_vecbase (c : Ctc) (n : Chan) (x : Channel) : (c.setChan n x).vecbase = c.vecbase := by
  cases n <;> rfl

@[simp] theorem Ctc.setChan_setChan (c : Ctc) (n : Chan) (x y : Channel) :
    (c.setChan n x).setChan n y = c.setChan n y := by
  cases n <;> rfl

@[simp] theorem Ctc.setChan_self (c : Ctc) (n : Chan) : c.setChan n (c.chan n) = c := by
  cases n <;> rfl

@[simp] theorem Pio.port_setPort (p : Pio) (x y : PortId) (q : Port) :
    (p.setPort x q).port y = if y = x then q else p.port y := by
  cases x <;> cases y <;> rfl

@[simp] theorem Pio.setPort_setPort (p : Pio) (x : PortId) (q r : Port) :
    (p.setPort x q).setPort x r = p.setPort x r := by
  cases x <;> rfl

/-- A decrement with no chain wired: the counter goes down, or rolls over with one zero count (R463). -/
theorem Ctc.decrement_unwired (k : Nat) (n : Chan) (s : CtcRun) :
    Ctc.decrement .unwired (k + 1) n s =
      some (if (s.chip.chan n).counter - 1 = 0 then
          { chip := s.chip.setChan n (s.chip.chan n).rollover, zeroCounts := n :: s.zeroCounts }
        else
          { s with chip := s.chip.setChan n { s.chip.chan n with counter := (s.chip.chan n).counter - 1 } }) := by
  have h : chainTarget .unwired n = none := by cases n <;> rfl
  simp only [Ctc.decrement, h]
  split <;> rfl

/-- One T-state of a channel with no chain wired (R459). -/
theorem Ctc.tickChan_unwired (n : Chan) (s : CtcRun) :
    ∃ r, Ctc.tickChan .unwired n s = some r ∧ ∀ m, m ≠ n → r.chip.chan m = s.chip.chan m := by
  unfold Ctc.tickChan
  simp only
  split
  · split
    · rw [show chainBound = 7 + 1 from rfl, Ctc.decrement_unwired]
      refine ⟨_, rfl, fun m hm => ?_⟩
      split <;> simp [hm]
    · exact ⟨_, rfl, fun m hm => by simp [hm]⟩
  · exact ⟨_, rfl, fun _ _ => rfl⟩

/-- With no chain wired the clock never stops (R459). -/
theorem Ctc.tick_unwired (t : Nat) (s : CtcRun) : ∃ r, Ctc.tick .unwired t s = some r := by
  induction t generalizing s with
  | zero => exact ⟨s, rfl⟩
  | succ t ih =>
    obtain ⟨s0, h0, _⟩ := Ctc.tickChan_unwired .ch0 s
    obtain ⟨s1, h1, _⟩ := Ctc.tickChan_unwired .ch1 s0
    obtain ⟨s2, h2, _⟩ := Ctc.tickChan_unwired .ch2 s1
    obtain ⟨s3, h3, _⟩ := Ctc.tickChan_unwired .ch3 s2
    obtain ⟨r, hr⟩ := ih s3
    exact ⟨r, by simp [Ctc.tick, Ctc.tickOne, h0, h1, h2, h3, hr]⟩

/-- An operation on a chip that can count changes the chips and the trace. -/
theorem ctcOp_state {k : Nat} {op : Chain → CtcRun → Option CtcRun} {s t : State} (h : ctcOp k op s = some t) :
    t = { s with ctcs := t.ctcs, trace := t.trace } ∧ t.ctcs.length = s.ctcs.length := by
  unfold ctcOp at h
  split at h
  · cases h; exact ⟨rfl, rfl⟩
  · simp only [Option.map_eq_some_iff] at h
    obtain ⟨x, _, rfl⟩ := h
    exact ⟨rfl, by simp⟩

/-- The clock of the chips changes the chips and the trace. -/
theorem tickChips_state {n : Nat} {ks : List Nat} {s t : State} (h : tickChips n ks s = some t) :
    t = { s with ctcs := t.ctcs, trace := t.trace } ∧ t.ctcs.length = s.ctcs.length := by
  induction ks generalizing s with
  | nil => cases h; exact ⟨rfl, rfl⟩
  | cons k ks ih =>
    simp only [tickChips, Option.bind_eq_some_iff] at h
    obtain ⟨u, hu, ht⟩ := h
    obtain ⟨h1, l1⟩ := ctcOp_state hu
    obtain ⟨h2, l2⟩ := ih ht
    refine ⟨?_, l2.trans l1⟩
    rw [h2, h1]

end Sys2Proof.Machine
end

