-- ==== Sys2Proof/Laws/Flags.lean ====
section
/-! SUPPORT. The arithmetic meaning of the flag computations: carries and borrows as comparisons of exact sums
and differences, the overflow flag as the signed result out of range (spec/43_alu8.md R221, R222, R234;
45_alu16.md R270 to R272), parity as an even number of one bits (10_state.md R34). -/

namespace Sys2Proof.Machine

theorem testBit_iff (n k : Nat) : n.testBit k = true ↔ n / 2 ^ k % 2 = 1 := by
  simp [Nat.testBit_eq_decide_div_mod_eq]

/-- The carry into bit `k` of a sum, read from the sum's bit. -/
theorem xor3_testBit (a b r k : Nat) :
    (a ^^^ b ^^^ r).testBit k = true ↔ (a / 2 ^ k + b / 2 ^ k + r / 2 ^ k) % 2 = 1 := by
  rw [Nat.testBit_xor, Nat.testBit_xor]
  simp only [Nat.testBit_eq_decide_div_mod_eq]
  rcases Nat.mod_two_eq_zero_or_one (a / 2 ^ k) with h1 | h1 <;>
    rcases Nat.mod_two_eq_zero_or_one (b / 2 ^ k) with h2 | h2 <;>
    rcases Nat.mod_two_eq_zero_or_one (r / 2 ^ k) with h3 | h3 <;>
    simp [Nat.add_mod, h1, h2, h3]

theorem bxor_iff {p q : Bool} : (p ^^ q) = true ↔ ¬(p = true ↔ q = true) := by
  cases p <;> cases q <;> decide

theorem bitNat_eq (c : Bool) : bitNat c = c.toNat := by cases c <;> rfl

theorem bitNat_le (c : Bool) : bitNat c ≤ 1 := by cases c <;> decide

theorem byte_toInt (a : Byte) : a.toInt = if a.toNat < 128 then (a.toNat : Int) else a.toNat - 256 := by
  have := a.isLt
  rw [BitVec.toInt_eq_toNat_cond]
  split <;> split <;> omega

theorem word_toInt (a : Word) : a.toInt = if a.toNat < 32768 then (a.toNat : Int) else a.toNat - 65536 := by
  have := a.isLt
  rw [BitVec.toInt_eq_toNat_cond]
  split <;> split <;> omega

/-- `add8` (R221): result, C, H and P in arithmetic. -/
theorem add8_spec (a b : Byte) (c : Bool) :
    (add8 a b c).1.toNat = (a.toNat + b.toNat + bitNat c) % 256 ∧
      ((add8 a b c).2.cf = true ↔ 256 ≤ a.toNat + b.toNat + bitNat c) ∧
      ((add8 a b c).2.hf = true ↔ 16 ≤ a.toNat % 16 + b.toNat % 16 + bitNat c) ∧
      ((add8 a b c).2.pf = true ↔ a.toInt + b.toInt + bitNat c < -128 ∨ 127 < a.toInt + b.toInt + bitNat c) := by
  have ha := a.isLt
  have hb := b.isLt
  have hc := bitNat_le c
  refine ⟨BitVec.toNat_ofNat .., ?_, ?_, ?_⟩
  · simp only [add8, testBit_iff]; omega
  · simp only [add8, xor3_testBit]; omega
  · simp only [add8, bxor_iff, xor3_testBit]
    simp only [testBit_iff, byte_toInt]
    split <;> split <;> omega

/-- `sub8` (R222): result, C, H and P in arithmetic. -/
theorem sub8_spec (a b : Byte) (c : Bool) :
    ((sub8 a b c).1.toNat : Int) = ((a.toNat : Int) - b.toNat - bitNat c) % 256 ∧
      ((sub8 a b c).2.cf = true ↔ a.toNat < b.toNat + bitNat c) ∧
      ((sub8 a b c).2.hf = true ↔ a.toNat % 16 < b.toNat % 16 + bitNat c) ∧
      ((sub8 a b c).2.pf = true ↔ a.toInt - b.toInt - bitNat c < -128 ∨ 127 < a.toInt - b.toInt - bitNat c) := by
  have ha := a.isLt
  have hb := b.isLt
  have hc := bitNat_le c
  refine ⟨?_, ?_, ?_, ?_⟩
  · simp only [sub8, BitVec.toNat_ofNat]; omega
  · simp only [sub8, testBit_iff]; omega
  · simp only [sub8, xor3_testBit]; omega
  · simp only [sub8, bxor_iff, xor3_testBit]
    simp only [testBit_iff, byte_toInt]
    split <;> split <;> omega

/-- `add16` (R270): result, C and H in arithmetic; S, Z and P are the flags before it. -/
theorem add16_spec (a b : Word) (f : Flags) :
    (add16 a b f).1.toNat = (a.toNat + b.toNat) % 65536 ∧
      ((add16 a b f).2.cf = true ↔ 65536 ≤ a.toNat + b.toNat) ∧
      ((add16 a b f).2.hf = true ↔ 4096 ≤ a.toNat % 4096 + b.toNat % 4096) ∧
      (add16 a b f).2.sf = f.sf ∧ (add16 a b f).2.zf = f.zf ∧ (add16 a b f).2.pf = f.pf := by
  have ha := a.isLt
  have hb := b.isLt
  refine ⟨BitVec.toNat_ofNat .., ?_, ?_, rfl, rfl, rfl⟩
  · simp only [add16, testBit_iff]; omega
  · simp only [add16, xor3_testBit]; omega

/-- `adc16` (R271): result, C, H and P in arithmetic. -/
theorem adc16_spec (a b : Word) (c : Bool) :
    (adc16 a b c).1.toNat = (a.toNat + b.toNat + bitNat c) % 65536 ∧
      ((adc16 a b c).2.cf = true ↔ 65536 ≤ a.toNat + b.toNat + bitNat c) ∧
      ((adc16 a b c).2.hf = true ↔ 4096 ≤ a.toNat % 4096 + b.toNat % 4096 + bitNat c) ∧
      ((adc16 a b c).2.pf = true ↔
        a.toInt + b.toInt + bitNat c < -32768 ∨ 32767 < a.toInt + b.toInt + bitNat c) := by
  have ha := a.isLt
  have hb := b.isLt
  have hc := bitNat_le c
  refine ⟨BitVec.toNat_ofNat .., ?_, ?_, ?_⟩
  · simp only [adc16, testBit_iff]; omega
  · simp only [adc16, xor3_testBit]; omega
  · simp only [adc16, bxor_iff, xor3_testBit]
    simp only [testBit_iff, word_toInt]
    split <;> split <;> omega

/-- `sbc16` (R272): result, C, H and P in arithmetic. -/
theorem sbc16_spec (a b : Word) (c : Bool) :
    ((sbc16 a b c).1.toNat : Int) = ((a.toNat : Int) - b.toNat - bitNat c) % 65536 ∧
      ((sbc16 a b c).2.cf = true ↔ a.toNat < b.toNat + bitNat c) ∧
      ((sbc16 a b c).2.hf = true ↔ a.toNat % 4096 < b.toNat % 4096 + bitNat c) ∧
      ((sbc16 a b c).2.pf = true ↔
        a.toInt - b.toInt - bitNat c < -32768 ∨ 32767 < a.toInt - b.toInt - bitNat c) := by
  have ha := a.isLt
  have hb := b.isLt
  have hc := bitNat_le c
  refine ⟨?_, ?_, ?_, ?_⟩
  · simp only [sbc16, BitVec.toNat_ofNat]; omega
  · simp only [sbc16, testBit_iff]; omega
  · simp only [sbc16, xor3_testBit]; omega
  · simp only [sbc16, bxor_iff, xor3_testBit]
    simp only [testBit_iff, word_toInt]
    split <;> split <;> omega

/-- `parity` (R34): an even number of one bits. -/
theorem parity_spec (v : Byte) :
    parity v = true ↔ ((List.range 8).filter fun k => v.getLsbD k).length % 2 = 0 := by
  revert v
  decide +kernel

end Sys2Proof.Machine
end

