-- ==== Sys2Proof/Laws/Memory.lean ====
section
/-! SUPPORT. The laws of the memory list: a read after a write to the same address and to another, the
canonical form kept by every operation that writes memory, and equal memories being equal data
(spec/20_memory.md R60, R61, R69). -/

namespace Sys2Proof.Machine

theorem Memory.wfFrom_mono {lo hi : Nat} (h : lo ≤ hi) :
    ∀ {m : Memory}, Memory.wfFrom hi m = true → Memory.wfFrom lo m = true
  | [], _ => rfl
  | (a, v) :: rest, hm => by
    simp only [Memory.wfFrom, Bool.and_eq_true, decide_eq_true_eq] at hm ⊢
    exact ⟨⟨⟨by omega, hm.1.1.2⟩, hm.1.2⟩, hm.2⟩

theorem Memory.read_below {lo a : Nat} (ha : a < lo) :
    ∀ {m : Memory}, Memory.wfFrom lo m = true → m.read a = Config.unlistedByte
  | [], _ => rfl
  | (b, v) :: rest, hm => by
    simp only [Memory.wfFrom, Bool.and_eq_true, decide_eq_true_eq] at hm
    have h1 : ¬a = b := by omega
    have h2 : a < b := by omega
    simp [Memory.read, h1, h2]

theorem Memory.wfFrom_listed {lo a : Nat} {v : Byte} {rest : Memory} (hlo : lo ≤ a) (ha : a < 65536)
    (hr : Memory.wfFrom (a + 1) rest = true) : Memory.wfFrom lo (Memory.listed a v rest) = true := by
  unfold Memory.listed
  split
  · exact Memory.wfFrom_mono (by omega) hr
  · simp [Memory.wfFrom, bne_iff_ne, *]

theorem Memory.wfFrom_write {a : Nat} {v : Byte} (ha : a < 65536) :
    ∀ {m : Memory} {lo : Nat}, lo ≤ a → Memory.wfFrom lo m = true → Memory.wfFrom lo (m.write a v) = true
  | [], _, hlo, _ => Memory.wfFrom_listed hlo ha rfl
  | (b, w) :: rest, lo, hlo, hm => by
    have hm' := hm
    simp only [Memory.wfFrom, Bool.and_eq_true, decide_eq_true_eq] at hm'
    unfold Memory.write
    split
    · refine Memory.wfFrom_listed hlo ha ?_
      simp only [Memory.wfFrom, Bool.and_eq_true, decide_eq_true_eq]
      exact ⟨⟨⟨by omega, hm'.1.1.2⟩, hm'.1.2⟩, hm'.2⟩
    · split
      · subst_vars; exact Memory.wfFrom_listed hlo ha hm'.2
      · simp only [Memory.wfFrom, Bool.and_eq_true, decide_eq_true_eq]
        exact ⟨hm'.1, Memory.wfFrom_write ha (by omega) hm'.2⟩

/-- A write keeps the canonical form. -/
theorem Memory.wf_write {m : Memory} {a : Nat} {v : Byte} (ha : a < 65536) (hm : m.wf = true) :
    (m.write a v).wf = true := Memory.wfFrom_write ha (Nat.zero_le a) hm

theorem Memory.read_listed {lo a b : Nat} {v : Byte} {rest : Memory} (hlo : a < lo)
    (hr : Memory.wfFrom lo rest = true) :
    (Memory.listed a v rest).read b = if b = a then v else rest.read b := by
  unfold Memory.listed
  by_cases hv : v = Config.unlistedByte
  · rw [if_pos hv]
    by_cases hb : b = a
    · rw [if_pos hb, hb, Memory.read_below hlo hr, hv]
    · rw [if_neg hb]
  · rw [if_neg hv]
    by_cases hb : b = a
    · simp [Memory.read, hb]
    · by_cases hlt : b < a
      · simp [Memory.read, hb, hlt, Memory.read_below (Nat.lt_trans hlt hlo) hr]
      · simp [Memory.read, hb, hlt]

theorem Memory.read_write_from {a b : Nat} {v : Byte} :
    ∀ {m : Memory} {lo : Nat}, Memory.wfFrom lo m = true →
      (m.write a v).read b = if b = a then v else m.read b
  | [], _, _ => Memory.read_listed (Nat.lt_succ_self _) rfl
  | (c, w) :: rest, lo, hm => by
    have hm' := hm
    simp only [Memory.wfFrom, Bool.and_eq_true, decide_eq_true_eq] at hm'
    unfold Memory.write
    split
    · rename_i h
      refine Memory.read_listed (lo := a + 1) (by omega) ?_
      simp only [Memory.wfFrom, Bool.and_eq_true, decide_eq_true_eq]
      exact ⟨⟨⟨by omega, hm'.1.1.2⟩, hm'.1.2⟩, hm'.2⟩
    · split
      · rename_i h
        subst h
        rw [Memory.read_listed (lo := a + 1) (by omega) hm'.2]
        by_cases hb : b = a
        · simp [hb]
        · by_cases hlt : b < a
          · simp [Memory.read, hb, hlt, Memory.read_below (Nat.lt_succ_of_lt hlt) hm'.2]
          · simp [Memory.read, hb, hlt]
      · simp only [Memory.read, Memory.read_write_from hm'.2]
        by_cases hb : b = a
        · have h1 : ¬a = c := by omega
          have h2 : ¬a < c := by omega
          simp [hb, h1, h2]
        · simp [hb]

/-- A read after a write: the byte written at its own address, every other byte as before. -/
theorem Memory.read_write {m : Memory} (hm : m.wf = true) (a b : Nat) (v : Byte) :
    (m.write a v).read b = if b = a then v else m.read b := Memory.read_write_from hm

/-- Canonical memories that read alike at every address are equal data. -/
theorem Memory.ext_from :
    ∀ {m n : Memory} {lo : Nat}, Memory.wfFrom lo m = true → Memory.wfFrom lo n = true →
      (∀ a, m.read a = n.read a) → m = n
  | [], [], _, _, _, _ => rfl
  | [], (b, w) :: _, _, _, hn, h => by
    simp only [Memory.wfFrom, Bool.and_eq_true, bne_iff_ne] at hn
    exact absurd (by simpa [Memory.read] using (h b).symm) hn.1.2
  | (a, v) :: _, [], _, hm, _, h => by
    simp only [Memory.wfFrom, Bool.and_eq_true, bne_iff_ne] at hm
    exact absurd (by simpa [Memory.read] using h a) hm.1.2
  | (a, v) :: r, (b, w) :: q, lo, hm, hn, h => by
    simp only [Memory.wfFrom, Bool.and_eq_true, decide_eq_true_eq, bne_iff_ne] at hm hn
    have hab : a = b := by
      rcases Nat.lt_trichotomy a b with hlt | heq | hgt
      · have := h a
        have h1 : ¬a = b := by omega
        simp [Memory.read, h1, hlt] at this
        exact absurd this hm.1.2
      · exact heq
      · have := h b
        have h1 : ¬b = a := by omega
        simp [Memory.read, h1, hgt] at this
        exact absurd this.symm hn.1.2
    subst hab
    have hv : v = w := by simpa [Memory.read] using h a
    subst hv
    have : r = q := Memory.ext_from hm.2 hn.2 fun c => by
      by_cases hc : c < a + 1
      · rw [Memory.read_below hc hm.2, Memory.read_below hc hn.2]
      · have := h c
        have h1 : ¬c = a := by omega
        have h2 : ¬c < a := by omega
        simpa [Memory.read, h1, h2] using this
    rw [this]

/-- Canonical memories that read alike at every address are equal data. -/
theorem Memory.ext_of_wf {m n : Memory} (hm : m.wf = true) (hn : n.wf = true)
    (h : ∀ a, m.read a = n.read a) : m = n := Memory.ext_from hm hn h

/-! ## The operations that write memory -/

theorem storeByte_wf {s : State} (a : Word) (v : Byte) (hm : s.mem.wf = true) :
    (storeByte a v s).mem.wf = true := by
  unfold storeByte
  split
  · exact Memory.wf_write a.isLt hm
  · exact hm

theorem writeAs_wf {s : State} (n : Bool) (a : Word) (v : Byte) (hm : s.mem.wf = true) :
    (writeAs n a v s).mem.wf = true := storeByte_wf a v hm

theorem memWrite_wf {s : State} (a : Word) (v : Byte) (hm : s.mem.wf = true) :
    (memWrite a v s).mem.wf = true := storeByte_wf a v hm

theorem writeWord_wf {s : State} (k : WordAccess) (a v : Word) (hm : s.mem.wf = true) :
    (writeWord k a v s).mem.wf = true := writeAs_wf _ _ _ (writeAs_wf _ _ _ hm)

theorem push16_wf {s : State} (v : Word) (hm : s.mem.wf = true) : (push16 v s).mem.wf = true :=
  writeAs_wf true _ _ (writeAs_wf _ _ _ hm)

theorem storeBytes_wf : ∀ (bs : List Byte) (a : Word) {m : Memory}, m.wf = true →
    (storeBytes a bs m).wf = true
  | [], _, _, hm => hm
  | _ :: bs, a, _, hm => storeBytes_wf bs (a + 1) (Memory.wf_write a.isLt hm)

/-- Placing an instruction for the next fetch keeps the canonical form. -/
theorem withFetchWord_wf {s : State} (nbits w : Nat) (hm : s.mem.wf = true) :
    (s.withFetchWord nbits w).mem.wf = true := storeBytes_wf _ _ hm

/-- The host's write to memory keeps the canonical form. -/
theorem hostWriteMem_wf {s t : State} (a : Word) (v : Byte) (hm : s.mem.wf = true)
    (h : hostEvent (.writeMem a v) s = some t) : t.mem.wf = true := by
  cases h
  exact Memory.wf_write a.isLt hm

/-- Reset memory is canonical. -/
theorem reset_wf : State.reset.mem.wf = true := rfl

end Sys2Proof.Machine
end

