-- ==== Sys2Proof/Laws/Registers.lean ====
section
/-! SUPPORT. Byte order and the register file: the halves of a word, the packed flags byte bit by bit, and what
a register write leaves (spec/10_state.md R22 to R24, R32, R33). -/

namespace Sys2Proof.Machine

/-- A word is its high byte times 256 and its low byte. -/
theorem mkWord_toNat (h l : Byte) : (mkWord h l).toNat = h.toNat * 256 + l.toNat := by
  have hl := l.isLt
  have e : (mkWord h l).toNat = h.toNat <<< 8 ||| l.toNat := BitVec.toNat_append h l
  rw [e, ← Nat.shiftLeft_add_eq_or_of_lt hl, Nat.shiftLeft_eq]

theorem hiByte_toNat (v : Word) : (hiByte v).toNat = v.toNat / 256 := by
  have := v.isLt
  simp only [hiByte, BitVec.extractLsb'_toNat, Nat.shiftRight_eq_div_pow]
  omega

theorem loByte_toNat (v : Word) : (loByte v).toNat = v.toNat % 256 := by
  simp [loByte, BitVec.extractLsb'_toNat]

@[simp] theorem hiByte_mkWord (h l : Byte) : hiByte (mkWord h l) = h := by
  have := l.isLt
  apply BitVec.eq_of_toNat_eq
  rw [hiByte_toNat, mkWord_toNat]
  omega

@[simp] theorem loByte_mkWord (h l : Byte) : loByte (mkWord h l) = l := by
  have := l.isLt
  apply BitVec.eq_of_toNat_eq
  rw [loByte_toNat, mkWord_toNat]
  omega

@[simp] theorem mkWord_hi_lo (v : Word) : mkWord (hiByte v) (loByte v) = v := by
  apply BitVec.eq_of_toNat_eq
  rw [mkWord_toNat, hiByte_toNat, loByte_toNat]
  omega

@[simp] theorem setHl_hl (g : Regs) (v : Word) : (g.setHl v).hl = v := mkWord_hi_lo v
@[simp] theorem setDe_de (g : Regs) (v : Word) : (g.setDe v).de = v := mkWord_hi_lo v
@[simp] theorem setBc_bc (g : Regs) (v : Word) : (g.setBc v).bc = v := mkWord_hi_lo v

@[simp] theorem setHl_getHl (g : Regs) : g.setHl g.hl = g := by simp [Regs.setHl, Regs.hl]
@[simp] theorem setDe_getDe (g : Regs) : g.setDe g.de = g := by simp [Regs.setDe, Regs.de]
@[simp] theorem setBc_getBc (g : Regs) : g.setBc g.bc = g := by simp [Regs.setBc, Regs.bc]

/-- An 8-bit register write leaves every field that is no 8-bit register of the main set. -/
theorem set8_frame (g : Regs) (r : Reg8) (v : Byte) :
    (g.set8 r v).ix = g.ix ∧ (g.set8 r v).iy = g.iy ∧ (g.set8 r v).aAlt = g.aAlt ∧
      (g.set8 r v).fAlt = g.fAlt ∧ (g.set8 r v).bAlt = g.bAlt ∧ (g.set8 r v).cAlt = g.cAlt ∧
      (g.set8 r v).dAlt = g.dAlt ∧ (g.set8 r v).eAlt = g.eAlt ∧ (g.set8 r v).hAlt = g.hAlt ∧
      (g.set8 r v).lAlt = g.lAlt := by
  cases r <;> exact ⟨rfl, rfl, rfl, rfl, rfl, rfl, rfl, rfl, rfl, rfl⟩

/-- A pair write leaves the index registers, A and the alternate set. -/
theorem setPair_frame (g : Regs) (p : Pair) (v : Word) :
    (g.setPair p v).ix = g.ix ∧ (g.setPair p v).iy = g.iy ∧ (g.setPair p v).a = g.a ∧
      (g.setPair p v).aAlt = g.aAlt ∧ (g.setPair p v).fAlt = g.fAlt ∧ (g.setPair p v).bAlt = g.bAlt ∧
      (g.setPair p v).cAlt = g.cAlt ∧ (g.setPair p v).dAlt = g.dAlt ∧ (g.setPair p v).eAlt = g.eAlt ∧
      (g.setPair p v).hAlt = g.hAlt ∧ (g.setPair p v).lAlt = g.lAlt := by
  cases p <;> exact ⟨rfl, rfl, rfl, rfl, rfl, rfl, rfl, rfl, rfl, rfl, rfl⟩

/-- An index register write leaves every field but that index register. -/
theorem setIndex_frame (g : Regs) (x : Index) (v : Word) :
    g.setIndex x v = { g with ix := (g.setIndex x v).ix, iy := (g.setIndex x v).iy } := by
  cases x <;> rfl

/-- F bit by bit (R32). -/
theorem pack_bits (f : Flags) :
    f.pack.getLsbD 7 = f.sf ∧ f.pack.getLsbD 6 = f.zf ∧ f.pack.getLsbD 5 = f.yf ∧ f.pack.getLsbD 4 = f.hf ∧
      f.pack.getLsbD 3 = f.xf ∧ f.pack.getLsbD 2 = f.pf ∧ f.pack.getLsbD 1 = f.nf ∧
      f.pack.getLsbD 0 = f.cf := by
  obtain ⟨a, b, c, d, e, g, h, i⟩ := f
  revert a b c d e g h i
  decide

end Sys2Proof.Machine
end

