-- ==== Sys2Proof/Laws/State.lean ====
section
/-! SUPPORT. One lemma per field per update of State, each true by unfolding the update, so that no later proof
unfolds a record update. -/

namespace Sys2Proof.Machine

variable (s : State)

/-! ## charge -/

@[simp] theorem charge_regs (n : Nat) : (charge n s).regs = s.regs := rfl
@[simp] theorem charge_flags (n : Nat) : (charge n s).flags = s.flags := rfl
@[simp] theorem charge_pc (n : Nat) : (charge n s).pc = s.pc := rfl
@[simp] theorem charge_i (n : Nat) : (charge n s).i = s.i := rfl
@[simp] theorem charge_rlo7 (n : Nat) : (charge n s).rlo7 = s.rlo7 := rfl
@[simp] theorem charge_rbit7 (n : Nat) : (charge n s).rbit7 = s.rbit7 := rfl
@[simp] theorem charge_iff1 (n : Nat) : (charge n s).iff1 = s.iff1 := rfl
@[simp] theorem charge_iff2 (n : Nat) : (charge n s).iff2 = s.iff2 := rfl
@[simp] theorem charge_im (n : Nat) : (charge n s).im = s.im := rfl
@[simp] theorem charge_halted (n : Nat) : (charge n s).halted = s.halted := rfl
@[simp] theorem charge_eidi (n : Nat) : (charge n s).eidi = s.eidi := rfl
@[simp] theorem charge_afterPrefix (n : Nat) : (charge n s).afterPrefix = s.afterPrefix := rfl
@[simp] theorem charge_nmiPending (n : Nat) : (charge n s).nmiPending = s.nmiPending := rfl
@[simp] theorem charge_waitAcc (n : Nat) : (charge n s).waitAcc = s.waitAcc := rfl
@[simp] theorem charge_tTotal (n : Nat) : (charge n s).tTotal = s.tTotal := rfl
@[simp] theorem charge_t (n : Nat) : (charge n s).t = s.t + n := rfl
@[simp] theorem charge_mem (n : Nat) : (charge n s).mem = s.mem := rfl
@[simp] theorem charge_ctcs (n : Nat) : (charge n s).ctcs = s.ctcs := rfl
@[simp] theorem charge_pios (n : Nat) : (charge n s).pios = s.pios := rfl
@[simp] theorem charge_platform (n : Nat) : (charge n s).platform = s.platform := rfl
@[simp] theorem charge_draws (n : Nat) : (charge n s).draws = s.draws := rfl
@[simp] theorem charge_trace (n : Nat) : (charge n s).trace = s.trace := rfl
@[simp] theorem charge_inbox (n : Nat) : (charge n s).inbox = s.inbox := rfl
@[simp] theorem charge_stop (n : Nat) : (charge n s).stop = s.stop := rfl

/-! ## incR -/

@[simp] theorem incR_regs : (incR s).regs = s.regs := rfl
@[simp] theorem incR_flags : (incR s).flags = s.flags := rfl
@[simp] theorem incR_pc : (incR s).pc = s.pc := rfl
@[simp] theorem incR_i : (incR s).i = s.i := rfl
@[simp] theorem incR_rlo7 : (incR s).rlo7 = s.rlo7 + 1 := rfl
@[simp] theorem incR_rbit7 : (incR s).rbit7 = s.rbit7 := rfl
@[simp] theorem incR_iff1 : (incR s).iff1 = s.iff1 := rfl
@[simp] theorem incR_iff2 : (incR s).iff2 = s.iff2 := rfl
@[simp] theorem incR_im : (incR s).im = s.im := rfl
@[simp] theorem incR_halted : (incR s).halted = s.halted := rfl
@[simp] theorem incR_eidi : (incR s).eidi = s.eidi := rfl
@[simp] theorem incR_afterPrefix : (incR s).afterPrefix = s.afterPrefix := rfl
@[simp] theorem incR_nmiPending : (incR s).nmiPending = s.nmiPending := rfl
@[simp] theorem incR_waitAcc : (incR s).waitAcc = s.waitAcc := rfl
@[simp] theorem incR_tTotal : (incR s).tTotal = s.tTotal := rfl
@[simp] theorem incR_t : (incR s).t = s.t := rfl
@[simp] theorem incR_mem : (incR s).mem = s.mem := rfl
@[simp] theorem incR_ctcs : (incR s).ctcs = s.ctcs := rfl
@[simp] theorem incR_pios : (incR s).pios = s.pios := rfl
@[simp] theorem incR_platform : (incR s).platform = s.platform := rfl
@[simp] theorem incR_draws : (incR s).draws = s.draws := rfl
@[simp] theorem incR_trace : (incR s).trace = s.trace := rfl
@[simp] theorem incR_inbox : (incR s).inbox = s.inbox := rfl
@[simp] theorem incR_stop : (incR s).stop = s.stop := rfl

/-! ## setPc -/

@[simp] theorem setPc_regs (a : Word) : (setPc a s).regs = s.regs := rfl
@[simp] theorem setPc_flags (a : Word) : (setPc a s).flags = s.flags := rfl
@[simp] theorem setPc_pc (a : Word) : (setPc a s).pc = a := rfl
@[simp] theorem setPc_i (a : Word) : (setPc a s).i = s.i := rfl
@[simp] theorem setPc_rlo7 (a : Word) : (setPc a s).rlo7 = s.rlo7 := rfl
@[simp] theorem setPc_rbit7 (a : Word) : (setPc a s).rbit7 = s.rbit7 := rfl
@[simp] theorem setPc_iff1 (a : Word) : (setPc a s).iff1 = s.iff1 := rfl
@[simp] theorem setPc_iff2 (a : Word) : (setPc a s).iff2 = s.iff2 := rfl
@[simp] theorem setPc_im (a : Word) : (setPc a s).im = s.im := rfl
@[simp] theorem setPc_halted (a : Word) : (setPc a s).halted = s.halted := rfl
@[simp] theorem setPc_eidi (a : Word) : (setPc a s).eidi = s.eidi := rfl
@[simp] theorem setPc_afterPrefix (a : Word) : (setPc a s).afterPrefix = s.afterPrefix := rfl
@[simp] theorem setPc_nmiPending (a : Word) : (setPc a s).nmiPending = s.nmiPending := rfl
@[simp] theorem setPc_waitAcc (a : Word) : (setPc a s).waitAcc = s.waitAcc := rfl
@[simp] theorem setPc_tTotal (a : Word) : (setPc a s).tTotal = s.tTotal := rfl
@[simp] theorem setPc_t (a : Word) : (setPc a s).t = s.t := rfl
@[simp] theorem setPc_mem (a : Word) : (setPc a s).mem = s.mem := rfl
@[simp] theorem setPc_ctcs (a : Word) : (setPc a s).ctcs = s.ctcs := rfl
@[simp] theorem setPc_pios (a : Word) : (setPc a s).pios = s.pios := rfl
@[simp] theorem setPc_platform (a : Word) : (setPc a s).platform = s.platform := rfl
@[simp] theorem setPc_draws (a : Word) : (setPc a s).draws = s.draws := rfl
@[simp] theorem setPc_trace (a : Word) : (setPc a s).trace = s.trace := rfl
@[simp] theorem setPc_inbox (a : Word) : (setPc a s).inbox = s.inbox := rfl
@[simp] theorem setPc_stop (a : Word) : (setPc a s).stop = s.stop := rfl

/-! ## observe -/

@[simp] theorem observe_regs (e : Event) : (observe e s).regs = s.regs := rfl
@[simp] theorem observe_flags (e : Event) : (observe e s).flags = s.flags := rfl
@[simp] theorem observe_pc (e : Event) : (observe e s).pc = s.pc := rfl
@[simp] theorem observe_i (e : Event) : (observe e s).i = s.i := rfl
@[simp] theorem observe_rlo7 (e : Event) : (observe e s).rlo7 = s.rlo7 := rfl
@[simp] theorem observe_rbit7 (e : Event) : (observe e s).rbit7 = s.rbit7 := rfl
@[simp] theorem observe_iff1 (e : Event) : (observe e s).iff1 = s.iff1 := rfl
@[simp] theorem observe_iff2 (e : Event) : (observe e s).iff2 = s.iff2 := rfl
@[simp] theorem observe_im (e : Event) : (observe e s).im = s.im := rfl
@[simp] theorem observe_halted (e : Event) : (observe e s).halted = s.halted := rfl
@[simp] theorem observe_eidi (e : Event) : (observe e s).eidi = s.eidi := rfl
@[simp] theorem observe_afterPrefix (e : Event) : (observe e s).afterPrefix = s.afterPrefix := rfl
@[simp] theorem observe_nmiPending (e : Event) : (observe e s).nmiPending = s.nmiPending := rfl
@[simp] theorem observe_waitAcc (e : Event) : (observe e s).waitAcc = s.waitAcc := rfl
@[simp] theorem observe_tTotal (e : Event) : (observe e s).tTotal = s.tTotal := rfl
@[simp] theorem observe_t (e : Event) : (observe e s).t = s.t := rfl
@[simp] theorem observe_mem (e : Event) : (observe e s).mem = s.mem := rfl
@[simp] theorem observe_ctcs (e : Event) : (observe e s).ctcs = s.ctcs := rfl
@[simp] theorem observe_pios (e : Event) : (observe e s).pios = s.pios := rfl
@[simp] theorem observe_platform (e : Event) : (observe e s).platform = s.platform := rfl
@[simp] theorem observe_draws (e : Event) : (observe e s).draws = s.draws := rfl
@[simp] theorem observe_trace (e : Event) : (observe e s).trace = e :: s.trace := rfl
@[simp] theorem observe_inbox (e : Event) : (observe e s).inbox = s.inbox := rfl
@[simp] theorem observe_stop (e : Event) : (observe e s).stop = s.stop := rfl

/-! ## setSp -/

@[simp] theorem setSp_regs (v : Word) : (setSp v s).regs = { s.regs with sp := v } := rfl
@[simp] theorem setSp_flags (v : Word) : (setSp v s).flags = s.flags := rfl
@[simp] theorem setSp_pc (v : Word) : (setSp v s).pc = s.pc := rfl
@[simp] theorem setSp_i (v : Word) : (setSp v s).i = s.i := rfl
@[simp] theorem setSp_rlo7 (v : Word) : (setSp v s).rlo7 = s.rlo7 := rfl
@[simp] theorem setSp_rbit7 (v : Word) : (setSp v s).rbit7 = s.rbit7 := rfl
@[simp] theorem setSp_iff1 (v : Word) : (setSp v s).iff1 = s.iff1 := rfl
@[simp] theorem setSp_iff2 (v : Word) : (setSp v s).iff2 = s.iff2 := rfl
@[simp] theorem setSp_im (v : Word) : (setSp v s).im = s.im := rfl
@[simp] theorem setSp_halted (v : Word) : (setSp v s).halted = s.halted := rfl
@[simp] theorem setSp_eidi (v : Word) : (setSp v s).eidi = s.eidi := rfl
@[simp] theorem setSp_afterPrefix (v : Word) : (setSp v s).afterPrefix = s.afterPrefix := rfl
@[simp] theorem setSp_nmiPending (v : Word) : (setSp v s).nmiPending = s.nmiPending := rfl
@[simp] theorem setSp_waitAcc (v : Word) : (setSp v s).waitAcc = s.waitAcc := rfl
@[simp] theorem setSp_tTotal (v : Word) : (setSp v s).tTotal = s.tTotal := rfl
@[simp] theorem setSp_t (v : Word) : (setSp v s).t = s.t := rfl
@[simp] theorem setSp_mem (v : Word) : (setSp v s).mem = s.mem := rfl
@[simp] theorem setSp_ctcs (v : Word) : (setSp v s).ctcs = s.ctcs := rfl
@[simp] theorem setSp_pios (v : Word) : (setSp v s).pios = s.pios := rfl
@[simp] theorem setSp_platform (v : Word) : (setSp v s).platform = s.platform := rfl
@[simp] theorem setSp_draws (v : Word) : (setSp v s).draws = s.draws := rfl
@[simp] theorem setSp_trace (v : Word) : (setSp v s).trace = s.trace := rfl
@[simp] theorem setSp_inbox (v : Word) : (setSp v s).inbox = s.inbox := rfl
@[simp] theorem setSp_stop (v : Word) : (setSp v s).stop = s.stop := rfl

/-! ## State.withRegs -/

@[simp] theorem State.withRegs_regs (g : Regs) : (s.withRegs g).regs = g := rfl
@[simp] theorem State.withRegs_flags (g : Regs) : (s.withRegs g).flags = s.flags := rfl
@[simp] theorem State.withRegs_pc (g : Regs) : (s.withRegs g).pc = s.pc := rfl
@[simp] theorem State.withRegs_i (g : Regs) : (s.withRegs g).i = s.i := rfl
@[simp] theorem State.withRegs_rlo7 (g : Regs) : (s.withRegs g).rlo7 = s.rlo7 := rfl
@[simp] theorem State.withRegs_rbit7 (g : Regs) : (s.withRegs g).rbit7 = s.rbit7 := rfl
@[simp] theorem State.withRegs_iff1 (g : Regs) : (s.withRegs g).iff1 = s.iff1 := rfl
@[simp] theorem State.withRegs_iff2 (g : Regs) : (s.withRegs g).iff2 = s.iff2 := rfl
@[simp] theorem State.withRegs_im (g : Regs) : (s.withRegs g).im = s.im := rfl
@[simp] theorem State.withRegs_halted (g : Regs) : (s.withRegs g).halted = s.halted := rfl
@[simp] theorem State.withRegs_eidi (g : Regs) : (s.withRegs g).eidi = s.eidi := rfl
@[simp] theorem State.withRegs_afterPrefix (g : Regs) : (s.withRegs g).afterPrefix = s.afterPrefix := rfl
@[simp] theorem State.withRegs_nmiPending (g : Regs) : (s.withRegs g).nmiPending = s.nmiPending := rfl
@[simp] theorem State.withRegs_waitAcc (g : Regs) : (s.withRegs g).waitAcc = s.waitAcc := rfl
@[simp] theorem State.withRegs_tTotal (g : Regs) : (s.withRegs g).tTotal = s.tTotal := rfl
@[simp] theorem State.withRegs_t (g : Regs) : (s.withRegs g).t = s.t := rfl
@[simp] theorem State.withRegs_mem (g : Regs) : (s.withRegs g).mem = s.mem := rfl
@[simp] theorem State.withRegs_ctcs (g : Regs) : (s.withRegs g).ctcs = s.ctcs := rfl
@[simp] theorem State.withRegs_pios (g : Regs) : (s.withRegs g).pios = s.pios := rfl
@[simp] theorem State.withRegs_platform (g : Regs) : (s.withRegs g).platform = s.platform := rfl
@[simp] theorem State.withRegs_draws (g : Regs) : (s.withRegs g).draws = s.draws := rfl
@[simp] theorem State.withRegs_trace (g : Regs) : (s.withRegs g).trace = s.trace := rfl
@[simp] theorem State.withRegs_inbox (g : Regs) : (s.withRegs g).inbox = s.inbox := rfl
@[simp] theorem State.withRegs_stop (g : Regs) : (s.withRegs g).stop = s.stop := rfl

/-! ## State.withFlags -/

@[simp] theorem State.withFlags_regs (f : Flags) : (s.withFlags f).regs = s.regs := rfl
@[simp] theorem State.withFlags_flags (f : Flags) : (s.withFlags f).flags = f := rfl
@[simp] theorem State.withFlags_pc (f : Flags) : (s.withFlags f).pc = s.pc := rfl
@[simp] theorem State.withFlags_i (f : Flags) : (s.withFlags f).i = s.i := rfl
@[simp] theorem State.withFlags_rlo7 (f : Flags) : (s.withFlags f).rlo7 = s.rlo7 := rfl
@[simp] theorem State.withFlags_rbit7 (f : Flags) : (s.withFlags f).rbit7 = s.rbit7 := rfl
@[simp] theorem State.withFlags_iff1 (f : Flags) : (s.withFlags f).iff1 = s.iff1 := rfl
@[simp] theorem State.withFlags_iff2 (f : Flags) : (s.withFlags f).iff2 = s.iff2 := rfl
@[simp] theorem State.withFlags_im (f : Flags) : (s.withFlags f).im = s.im := rfl
@[simp] theorem State.withFlags_halted (f : Flags) : (s.withFlags f).halted = s.halted := rfl
@[simp] theorem State.withFlags_eidi (f : Flags) : (s.withFlags f).eidi = s.eidi := rfl
@[simp] theorem State.withFlags_afterPrefix (f : Flags) : (s.withFlags f).afterPrefix = s.afterPrefix := rfl
@[simp] theorem State.withFlags_nmiPending (f : Flags) : (s.withFlags f).nmiPending = s.nmiPending := rfl
@[simp] theorem State.withFlags_waitAcc (f : Flags) : (s.withFlags f).waitAcc = s.waitAcc := rfl
@[simp] theorem State.withFlags_tTotal (f : Flags) : (s.withFlags f).tTotal = s.tTotal := rfl
@[simp] theorem State.withFlags_t (f : Flags) : (s.withFlags f).t = s.t := rfl
@[simp] theorem State.withFlags_mem (f : Flags) : (s.withFlags f).mem = s.mem := rfl
@[simp] theorem State.withFlags_ctcs (f : Flags) : (s.withFlags f).ctcs = s.ctcs := rfl
@[simp] theorem State.withFlags_pios (f : Flags) : (s.withFlags f).pios = s.pios := rfl
@[simp] theorem State.withFlags_platform (f : Flags) : (s.withFlags f).platform = s.platform := rfl
@[simp] theorem State.withFlags_draws (f : Flags) : (s.withFlags f).draws = s.draws := rfl
@[simp] theorem State.withFlags_trace (f : Flags) : (s.withFlags f).trace = s.trace := rfl
@[simp] theorem State.withFlags_inbox (f : Flags) : (s.withFlags f).inbox = s.inbox := rfl
@[simp] theorem State.withFlags_stop (f : Flags) : (s.withFlags f).stop = s.stop := rfl

/-! ## State.setReg8 -/

@[simp] theorem State.setReg8_regs (r : Reg8) (v : Byte) : (s.setReg8 r v).regs = s.regs.set8 r v := rfl
@[simp] theorem State.setReg8_flags (r : Reg8) (v : Byte) : (s.setReg8 r v).flags = s.flags := rfl
@[simp] theorem State.setReg8_pc (r : Reg8) (v : Byte) : (s.setReg8 r v).pc = s.pc := rfl
@[simp] theorem State.setReg8_i (r : Reg8) (v : Byte) : (s.setReg8 r v).i = s.i := rfl
@[simp] theorem State.setReg8_rlo7 (r : Reg8) (v : Byte) : (s.setReg8 r v).rlo7 = s.rlo7 := rfl
@[simp] theorem State.setReg8_rbit7 (r : Reg8) (v : Byte) : (s.setReg8 r v).rbit7 = s.rbit7 := rfl
@[simp] theorem State.setReg8_iff1 (r : Reg8) (v : Byte) : (s.setReg8 r v).iff1 = s.iff1 := rfl
@[simp] theorem State.setReg8_iff2 (r : Reg8) (v : Byte) : (s.setReg8 r v).iff2 = s.iff2 := rfl
@[simp] theorem State.setReg8_im (r : Reg8) (v : Byte) : (s.setReg8 r v).im = s.im := rfl
@[simp] theorem State.setReg8_halted (r : Reg8) (v : Byte) : (s.setReg8 r v).halted = s.halted := rfl
@[simp] theorem State.setReg8_eidi (r : Reg8) (v : Byte) : (s.setReg8 r v).eidi = s.eidi := rfl
@[simp] theorem State.setReg8_afterPrefix (r : Reg8) (v : Byte) :
    (s.setReg8 r v).afterPrefix = s.afterPrefix := rfl
@[simp] theorem State.setReg8_nmiPending (r : Reg8) (v : Byte) :
    (s.setReg8 r v).nmiPending = s.nmiPending := rfl
@[simp] theorem State.setReg8_waitAcc (r : Reg8) (v : Byte) : (s.setReg8 r v).waitAcc = s.waitAcc := rfl
@[simp] theorem State.setReg8_tTotal (r : Reg8) (v : Byte) : (s.setReg8 r v).tTotal = s.tTotal := rfl
@[simp] theorem State.setReg8_t (r : Reg8) (v : Byte) : (s.setReg8 r v).t = s.t := rfl
@[simp] theorem State.setReg8_mem (r : Reg8) (v : Byte) : (s.setReg8 r v).mem = s.mem := rfl
@[simp] theorem State.setReg8_ctcs (r : Reg8) (v : Byte) : (s.setReg8 r v).ctcs = s.ctcs := rfl
@[simp] theorem State.setReg8_pios (r : Reg8) (v : Byte) : (s.setReg8 r v).pios = s.pios := rfl
@[simp] theorem State.setReg8_platform (r : Reg8) (v : Byte) : (s.setReg8 r v).platform = s.platform := rfl
@[simp] theorem State.setReg8_draws (r : Reg8) (v : Byte) : (s.setReg8 r v).draws = s.draws := rfl
@[simp] theorem State.setReg8_trace (r : Reg8) (v : Byte) : (s.setReg8 r v).trace = s.trace := rfl
@[simp] theorem State.setReg8_inbox (r : Reg8) (v : Byte) : (s.setReg8 r v).inbox = s.inbox := rfl
@[simp] theorem State.setReg8_stop (r : Reg8) (v : Byte) : (s.setReg8 r v).stop = s.stop := rfl

/-! ## State.setA -/

@[simp] theorem State.setA_regs (v : Byte) : (s.setA v).regs = { s.regs with a := v } := rfl
@[simp] theorem State.setA_flags (v : Byte) : (s.setA v).flags = s.flags := rfl
@[simp] theorem State.setA_pc (v : Byte) : (s.setA v).pc = s.pc := rfl
@[simp] theorem State.setA_i (v : Byte) : (s.setA v).i = s.i := rfl
@[simp] theorem State.setA_rlo7 (v : Byte) : (s.setA v).rlo7 = s.rlo7 := rfl
@[simp] theorem State.setA_rbit7 (v : Byte) : (s.setA v).rbit7 = s.rbit7 := rfl
@[simp] theorem State.setA_iff1 (v : Byte) : (s.setA v).iff1 = s.iff1 := rfl
@[simp] theorem State.setA_iff2 (v : Byte) : (s.setA v).iff2 = s.iff2 := rfl
@[simp] theorem State.setA_im (v : Byte) : (s.setA v).im = s.im := rfl
@[simp] theorem State.setA_halted (v : Byte) : (s.setA v).halted = s.halted := rfl
@[simp] theorem State.setA_eidi (v : Byte) : (s.setA v).eidi = s.eidi := rfl
@[simp] theorem State.setA_afterPrefix (v : Byte) : (s.setA v).afterPrefix = s.afterPrefix := rfl
@[simp] theorem State.setA_nmiPending (v : Byte) : (s.setA v).nmiPending = s.nmiPending := rfl
@[simp] theorem State.setA_waitAcc (v : Byte) : (s.setA v).waitAcc = s.waitAcc := rfl
@[simp] theorem State.setA_tTotal (v : Byte) : (s.setA v).tTotal = s.tTotal := rfl
@[simp] theorem State.setA_t (v : Byte) : (s.setA v).t = s.t := rfl
@[simp] theorem State.setA_mem (v : Byte) : (s.setA v).mem = s.mem := rfl
@[simp] theorem State.setA_ctcs (v : Byte) : (s.setA v).ctcs = s.ctcs := rfl
@[simp] theorem State.setA_pios (v : Byte) : (s.setA v).pios = s.pios := rfl
@[simp] theorem State.setA_platform (v : Byte) : (s.setA v).platform = s.platform := rfl
@[simp] theorem State.setA_draws (v : Byte) : (s.setA v).draws = s.draws := rfl
@[simp] theorem State.setA_trace (v : Byte) : (s.setA v).trace = s.trace := rfl
@[simp] theorem State.setA_inbox (v : Byte) : (s.setA v).inbox = s.inbox := rfl
@[simp] theorem State.setA_stop (v : Byte) : (s.setA v).stop = s.stop := rfl

/-! ## acknowledge -/

@[simp] theorem acknowledge_regs : (acknowledge s).regs = s.regs := rfl
@[simp] theorem acknowledge_flags : (acknowledge s).flags = s.flags := rfl
@[simp] theorem acknowledge_pc : (acknowledge s).pc = s.pc := rfl
@[simp] theorem acknowledge_i : (acknowledge s).i = s.i := rfl
@[simp] theorem acknowledge_rlo7 : (acknowledge s).rlo7 = s.rlo7 + 1 := rfl
@[simp] theorem acknowledge_rbit7 : (acknowledge s).rbit7 = s.rbit7 := rfl
@[simp] theorem acknowledge_iff1 : (acknowledge s).iff1 = s.iff1 := rfl
@[simp] theorem acknowledge_iff2 : (acknowledge s).iff2 = s.iff2 := rfl
@[simp] theorem acknowledge_im : (acknowledge s).im = s.im := rfl
@[simp] theorem acknowledge_halted : (acknowledge s).halted = false := rfl
@[simp] theorem acknowledge_eidi : (acknowledge s).eidi = s.eidi := rfl
@[simp] theorem acknowledge_afterPrefix : (acknowledge s).afterPrefix = s.afterPrefix := rfl
@[simp] theorem acknowledge_nmiPending : (acknowledge s).nmiPending = s.nmiPending := rfl
@[simp] theorem acknowledge_waitAcc : (acknowledge s).waitAcc = s.waitAcc := rfl
@[simp] theorem acknowledge_tTotal : (acknowledge s).tTotal = s.tTotal := rfl
@[simp] theorem acknowledge_t : (acknowledge s).t = s.t := rfl
@[simp] theorem acknowledge_mem : (acknowledge s).mem = s.mem := rfl
@[simp] theorem acknowledge_ctcs : (acknowledge s).ctcs = s.ctcs := rfl
@[simp] theorem acknowledge_pios : (acknowledge s).pios = s.pios := rfl
@[simp] theorem acknowledge_platform : (acknowledge s).platform = s.platform := rfl
@[simp] theorem acknowledge_draws : (acknowledge s).draws = s.draws := rfl
@[simp] theorem acknowledge_trace : (acknowledge s).trace = s.trace := rfl
@[simp] theorem acknowledge_inbox : (acknowledge s).inbox = s.inbox := rfl
@[simp] theorem acknowledge_stop : (acknowledge s).stop = s.stop := rfl

/-! ## readAs -/

@[simp] theorem readAs_regs (k : AccessKind) (n : Bool) (a : Word) : ((readAs k n a s).2).regs = s.regs := rfl
@[simp] theorem readAs_flags (k : AccessKind) (n : Bool) (a : Word) :
    ((readAs k n a s).2).flags = s.flags := rfl
@[simp] theorem readAs_pc (k : AccessKind) (n : Bool) (a : Word) : ((readAs k n a s).2).pc = s.pc := rfl
@[simp] theorem readAs_i (k : AccessKind) (n : Bool) (a : Word) : ((readAs k n a s).2).i = s.i := rfl
@[simp] theorem readAs_rlo7 (k : AccessKind) (n : Bool) (a : Word) : ((readAs k n a s).2).rlo7 = s.rlo7 := rfl
@[simp] theorem readAs_rbit7 (k : AccessKind) (n : Bool) (a : Word) :
    ((readAs k n a s).2).rbit7 = s.rbit7 := rfl
@[simp] theorem readAs_iff1 (k : AccessKind) (n : Bool) (a : Word) : ((readAs k n a s).2).iff1 = s.iff1 := rfl
@[simp] theorem readAs_iff2 (k : AccessKind) (n : Bool) (a : Word) : ((readAs k n a s).2).iff2 = s.iff2 := rfl
@[simp] theorem readAs_im (k : AccessKind) (n : Bool) (a : Word) : ((readAs k n a s).2).im = s.im := rfl
@[simp] theorem readAs_halted (k : AccessKind) (n : Bool) (a : Word) :
    ((readAs k n a s).2).halted = s.halted := rfl
@[simp] theorem readAs_eidi (k : AccessKind) (n : Bool) (a : Word) : ((readAs k n a s).2).eidi = s.eidi := rfl
@[simp] theorem readAs_afterPrefix (k : AccessKind) (n : Bool) (a : Word) :
    ((readAs k n a s).2).afterPrefix = s.afterPrefix := rfl
@[simp] theorem readAs_nmiPending (k : AccessKind) (n : Bool) (a : Word) :
    ((readAs k n a s).2).nmiPending = s.nmiPending := rfl
@[simp] theorem readAs_waitAcc (k : AccessKind) (n : Bool) (a : Word) :
    ((readAs k n a s).2).waitAcc = s.waitAcc := rfl
@[simp] theorem readAs_tTotal (k : AccessKind) (n : Bool) (a : Word) :
    ((readAs k n a s).2).tTotal = s.tTotal := rfl
@[simp] theorem readAs_t (k : AccessKind) (n : Bool) (a : Word) : ((readAs k n a s).2).t = s.t := rfl
@[simp] theorem readAs_mem (k : AccessKind) (n : Bool) (a : Word) : ((readAs k n a s).2).mem = s.mem := rfl
@[simp] theorem readAs_ctcs (k : AccessKind) (n : Bool) (a : Word) : ((readAs k n a s).2).ctcs = s.ctcs := rfl
@[simp] theorem readAs_pios (k : AccessKind) (n : Bool) (a : Word) : ((readAs k n a s).2).pios = s.pios := rfl
@[simp] theorem readAs_platform (k : AccessKind) (n : Bool) (a : Word) :
    ((readAs k n a s).2).platform = s.platform := rfl
@[simp] theorem readAs_draws (k : AccessKind) (n : Bool) (a : Word) :
    ((readAs k n a s).2).draws = s.draws + drawsOf s a := rfl
@[simp] theorem readAs_trace (k : AccessKind) (n : Bool) (a : Word) :
    ((readAs k n a s).2).trace = .access { kind := k, addr := a, value := peek s a, notified := n } :: s.trace := rfl
@[simp] theorem readAs_inbox (k : AccessKind) (n : Bool) (a : Word) :
    ((readAs k n a s).2).inbox = s.inbox := rfl
@[simp] theorem readAs_stop (k : AccessKind) (n : Bool) (a : Word) : ((readAs k n a s).2).stop = s.stop := rfl

/-! ## memRead -/

@[simp] theorem memRead_regs (a : Word) : ((memRead a s).2).regs = s.regs := rfl
@[simp] theorem memRead_flags (a : Word) : ((memRead a s).2).flags = s.flags := rfl
@[simp] theorem memRead_pc (a : Word) : ((memRead a s).2).pc = s.pc := rfl
@[simp] theorem memRead_i (a : Word) : ((memRead a s).2).i = s.i := rfl
@[simp] theorem memRead_rlo7 (a : Word) : ((memRead a s).2).rlo7 = s.rlo7 := rfl
@[simp] theorem memRead_rbit7 (a : Word) : ((memRead a s).2).rbit7 = s.rbit7 := rfl
@[simp] theorem memRead_iff1 (a : Word) : ((memRead a s).2).iff1 = s.iff1 := rfl
@[simp] theorem memRead_iff2 (a : Word) : ((memRead a s).2).iff2 = s.iff2 := rfl
@[simp] theorem memRead_im (a : Word) : ((memRead a s).2).im = s.im := rfl
@[simp] theorem memRead_halted (a : Word) : ((memRead a s).2).halted = s.halted := rfl
@[simp] theorem memRead_eidi (a : Word) : ((memRead a s).2).eidi = s.eidi := rfl
@[simp] theorem memRead_afterPrefix (a : Word) : ((memRead a s).2).afterPrefix = s.afterPrefix := rfl
@[simp] theorem memRead_nmiPending (a : Word) : ((memRead a s).2).nmiPending = s.nmiPending := rfl
@[simp] theorem memRead_waitAcc (a : Word) : ((memRead a s).2).waitAcc = s.waitAcc := rfl
@[simp] theorem memRead_tTotal (a : Word) : ((memRead a s).2).tTotal = s.tTotal := rfl
@[simp] theorem memRead_t (a : Word) : ((memRead a s).2).t = s.t := rfl
@[simp] theorem memRead_mem (a : Word) : ((memRead a s).2).mem = s.mem := rfl
@[simp] theorem memRead_ctcs (a : Word) : ((memRead a s).2).ctcs = s.ctcs := rfl
@[simp] theorem memRead_pios (a : Word) : ((memRead a s).2).pios = s.pios := rfl
@[simp] theorem memRead_platform (a : Word) : ((memRead a s).2).platform = s.platform := rfl
@[simp] theorem memRead_draws (a : Word) : ((memRead a s).2).draws = s.draws + drawsOf s a := rfl
@[simp] theorem memRead_trace (a : Word) :
    ((memRead a s).2).trace = .access { kind := .read, addr := a, value := peek s a, notified := true } :: s.trace := rfl
@[simp] theorem memRead_inbox (a : Word) : ((memRead a s).2).inbox = s.inbox := rfl
@[simp] theorem memRead_stop (a : Word) : ((memRead a s).2).stop = s.stop := rfl

/-! ## fetchM1 -/

@[simp] theorem fetchM1_regs : (fetchM1 s).regs = s.regs := rfl
@[simp] theorem fetchM1_flags : (fetchM1 s).flags = s.flags := rfl
@[simp] theorem fetchM1_pc : (fetchM1 s).pc = s.pc + 1 := rfl
@[simp] theorem fetchM1_i : (fetchM1 s).i = s.i := rfl
@[simp] theorem fetchM1_rlo7 : (fetchM1 s).rlo7 = s.rlo7 + 1 := rfl
@[simp] theorem fetchM1_rbit7 : (fetchM1 s).rbit7 = s.rbit7 := rfl
@[simp] theorem fetchM1_iff1 : (fetchM1 s).iff1 = s.iff1 := rfl
@[simp] theorem fetchM1_iff2 : (fetchM1 s).iff2 = s.iff2 := rfl
@[simp] theorem fetchM1_im : (fetchM1 s).im = s.im := rfl
@[simp] theorem fetchM1_halted : (fetchM1 s).halted = s.halted := rfl
@[simp] theorem fetchM1_eidi : (fetchM1 s).eidi = s.eidi := rfl
@[simp] theorem fetchM1_afterPrefix : (fetchM1 s).afterPrefix = s.afterPrefix := rfl
@[simp] theorem fetchM1_nmiPending : (fetchM1 s).nmiPending = s.nmiPending := rfl
@[simp] theorem fetchM1_waitAcc : (fetchM1 s).waitAcc = s.waitAcc := rfl
@[simp] theorem fetchM1_tTotal : (fetchM1 s).tTotal = s.tTotal := rfl
@[simp] theorem fetchM1_t : (fetchM1 s).t = s.t := rfl
@[simp] theorem fetchM1_mem : (fetchM1 s).mem = s.mem := rfl
@[simp] theorem fetchM1_ctcs : (fetchM1 s).ctcs = s.ctcs := rfl
@[simp] theorem fetchM1_pios : (fetchM1 s).pios = s.pios := rfl
@[simp] theorem fetchM1_platform : (fetchM1 s).platform = s.platform := rfl
@[simp] theorem fetchM1_draws : (fetchM1 s).draws = s.draws + drawsOf s s.pc := rfl
@[simp] theorem fetchM1_trace :
    (fetchM1 s).trace = .access { kind := .m1, addr := s.pc, value := peek s s.pc, notified := true } :: s.trace := rfl
@[simp] theorem fetchM1_inbox : (fetchM1 s).inbox = s.inbox := rfl
@[simp] theorem fetchM1_stop : (fetchM1 s).stop = s.stop := rfl

/-! ## fetchOperand -/

@[simp] theorem fetchOperand_regs (n : Bool) : (fetchOperand n s).regs = s.regs := rfl
@[simp] theorem fetchOperand_flags (n : Bool) : (fetchOperand n s).flags = s.flags := rfl
@[simp] theorem fetchOperand_pc (n : Bool) : (fetchOperand n s).pc = s.pc + 1 := rfl
@[simp] theorem fetchOperand_i (n : Bool) : (fetchOperand n s).i = s.i := rfl
@[simp] theorem fetchOperand_rlo7 (n : Bool) : (fetchOperand n s).rlo7 = s.rlo7 := rfl
@[simp] theorem fetchOperand_rbit7 (n : Bool) : (fetchOperand n s).rbit7 = s.rbit7 := rfl
@[simp] theorem fetchOperand_iff1 (n : Bool) : (fetchOperand n s).iff1 = s.iff1 := rfl
@[simp] theorem fetchOperand_iff2 (n : Bool) : (fetchOperand n s).iff2 = s.iff2 := rfl
@[simp] theorem fetchOperand_im (n : Bool) : (fetchOperand n s).im = s.im := rfl
@[simp] theorem fetchOperand_halted (n : Bool) : (fetchOperand n s).halted = s.halted := rfl
@[simp] theorem fetchOperand_eidi (n : Bool) : (fetchOperand n s).eidi = s.eidi := rfl
@[simp] theorem fetchOperand_afterPrefix (n : Bool) : (fetchOperand n s).afterPrefix = s.afterPrefix := rfl
@[simp] theorem fetchOperand_nmiPending (n : Bool) : (fetchOperand n s).nmiPending = s.nmiPending := rfl
@[simp] theorem fetchOperand_waitAcc (n : Bool) : (fetchOperand n s).waitAcc = s.waitAcc := rfl
@[simp] theorem fetchOperand_tTotal (n : Bool) : (fetchOperand n s).tTotal = s.tTotal := rfl
@[simp] theorem fetchOperand_t (n : Bool) : (fetchOperand n s).t = s.t := rfl
@[simp] theorem fetchOperand_mem (n : Bool) : (fetchOperand n s).mem = s.mem := rfl
@[simp] theorem fetchOperand_ctcs (n : Bool) : (fetchOperand n s).ctcs = s.ctcs := rfl
@[simp] theorem fetchOperand_pios (n : Bool) : (fetchOperand n s).pios = s.pios := rfl
@[simp] theorem fetchOperand_platform (n : Bool) : (fetchOperand n s).platform = s.platform := rfl
@[simp] theorem fetchOperand_draws (n : Bool) : (fetchOperand n s).draws = s.draws + drawsOf s s.pc := rfl
@[simp] theorem fetchOperand_trace (n : Bool) :
    (fetchOperand n s).trace = .access { kind := .read, addr := s.pc, value := peek s s.pc, notified := n } :: s.trace := rfl
@[simp] theorem fetchOperand_inbox (n : Bool) : (fetchOperand n s).inbox = s.inbox := rfl
@[simp] theorem fetchOperand_stop (n : Bool) : (fetchOperand n s).stop = s.stop := rfl

/-! ## State.withFetchWord -/

@[simp] theorem State.withFetchWord_regs (n w : Nat) : (s.withFetchWord n w).regs = s.regs := rfl
@[simp] theorem State.withFetchWord_flags (n w : Nat) : (s.withFetchWord n w).flags = s.flags := rfl
@[simp] theorem State.withFetchWord_pc (n w : Nat) : (s.withFetchWord n w).pc = s.pc := rfl
@[simp] theorem State.withFetchWord_i (n w : Nat) : (s.withFetchWord n w).i = s.i := rfl
@[simp] theorem State.withFetchWord_rlo7 (n w : Nat) : (s.withFetchWord n w).rlo7 = s.rlo7 := rfl
@[simp] theorem State.withFetchWord_rbit7 (n w : Nat) : (s.withFetchWord n w).rbit7 = s.rbit7 := rfl
@[simp] theorem State.withFetchWord_iff1 (n w : Nat) : (s.withFetchWord n w).iff1 = s.iff1 := rfl
@[simp] theorem State.withFetchWord_iff2 (n w : Nat) : (s.withFetchWord n w).iff2 = s.iff2 := rfl
@[simp] theorem State.withFetchWord_im (n w : Nat) : (s.withFetchWord n w).im = s.im := rfl
@[simp] theorem State.withFetchWord_halted (n w : Nat) : (s.withFetchWord n w).halted = s.halted := rfl
@[simp] theorem State.withFetchWord_eidi (n w : Nat) : (s.withFetchWord n w).eidi = s.eidi := rfl
@[simp] theorem State.withFetchWord_afterPrefix (n w : Nat) :
    (s.withFetchWord n w).afterPrefix = s.afterPrefix := rfl
@[simp] theorem State.withFetchWord_nmiPending (n w : Nat) :
    (s.withFetchWord n w).nmiPending = s.nmiPending := rfl
@[simp] theorem State.withFetchWord_waitAcc (n w : Nat) : (s.withFetchWord n w).waitAcc = s.waitAcc := rfl
@[simp] theorem State.withFetchWord_tTotal (n w : Nat) : (s.withFetchWord n w).tTotal = s.tTotal := rfl
@[simp] theorem State.withFetchWord_t (n w : Nat) : (s.withFetchWord n w).t = s.t := rfl
@[simp] theorem State.withFetchWord_mem (n w : Nat) :
    (s.withFetchWord n w).mem = storeBytes s.pc (fetchBytes n w) s.mem := rfl
@[simp] theorem State.withFetchWord_ctcs (n w : Nat) : (s.withFetchWord n w).ctcs = s.ctcs := rfl
@[simp] theorem State.withFetchWord_pios (n w : Nat) : (s.withFetchWord n w).pios = s.pios := rfl
@[simp] theorem State.withFetchWord_platform (n w : Nat) : (s.withFetchWord n w).platform = s.platform := rfl
@[simp] theorem State.withFetchWord_draws (n w : Nat) : (s.withFetchWord n w).draws = s.draws := rfl
@[simp] theorem State.withFetchWord_trace (n w : Nat) : (s.withFetchWord n w).trace = s.trace := rfl
@[simp] theorem State.withFetchWord_inbox (n w : Nat) : (s.withFetchWord n w).inbox = s.inbox := rfl
@[simp] theorem State.withFetchWord_stop (n w : Nat) : (s.withFetchWord n w).stop = s.stop := rfl

/-! ## storeByte -/

@[simp] theorem storeByte_regs (a : Word) (v : Byte) : (storeByte a v s).regs = s.regs := by
  unfold storeByte; split <;> rfl
@[simp] theorem storeByte_flags (a : Word) (v : Byte) : (storeByte a v s).flags = s.flags := by
  unfold storeByte; split <;> rfl
@[simp] theorem storeByte_pc (a : Word) (v : Byte) : (storeByte a v s).pc = s.pc := by
  unfold storeByte; split <;> rfl
@[simp] theorem storeByte_i (a : Word) (v : Byte) : (storeByte a v s).i = s.i := by
  unfold storeByte; split <;> rfl
@[simp] theorem storeByte_rlo7 (a : Word) (v : Byte) : (storeByte a v s).rlo7 = s.rlo7 := by
  unfold storeByte; split <;> rfl
@[simp] theorem storeByte_rbit7 (a : Word) (v : Byte) : (storeByte a v s).rbit7 = s.rbit7 := by
  unfold storeByte; split <;> rfl
@[simp] theorem storeByte_iff1 (a : Word) (v : Byte) : (storeByte a v s).iff1 = s.iff1 := by
  unfold storeByte; split <;> rfl
@[simp] theorem storeByte_iff2 (a : Word) (v : Byte) : (storeByte a v s).iff2 = s.iff2 := by
  unfold storeByte; split <;> rfl
@[simp] theorem storeByte_im (a : Word) (v : Byte) : (storeByte a v s).im = s.im := by
  unfold storeByte; split <;> rfl
@[simp] theorem storeByte_halted (a : Word) (v : Byte) : (storeByte a v s).halted = s.halted := by
  unfold storeByte; split <;> rfl
@[simp] theorem storeByte_eidi (a : Word) (v : Byte) : (storeByte a v s).eidi = s.eidi := by
  unfold storeByte; split <;> rfl
@[simp] theorem storeByte_afterPrefix (a : Word) (v : Byte) : (storeByte a v s).afterPrefix = s.afterPrefix := by
  unfold storeByte; split <;> rfl
@[simp] theorem storeByte_nmiPending (a : Word) (v : Byte) : (storeByte a v s).nmiPending = s.nmiPending := by
  unfold storeByte; split <;> rfl
@[simp] theorem storeByte_waitAcc (a : Word) (v : Byte) : (storeByte a v s).waitAcc = s.waitAcc := by
  unfold storeByte; split <;> rfl
@[simp] theorem storeByte_tTotal (a : Word) (v : Byte) : (storeByte a v s).tTotal = s.tTotal := by
  unfold storeByte; split <;> rfl
@[simp] theorem storeByte_t (a : Word) (v : Byte) : (storeByte a v s).t = s.t := by
  unfold storeByte; split <;> rfl
@[simp] theorem storeByte_ctcs (a : Word) (v : Byte) : (storeByte a v s).ctcs = s.ctcs := by
  unfold storeByte; split <;> rfl
@[simp] theorem storeByte_pios (a : Word) (v : Byte) : (storeByte a v s).pios = s.pios := by
  unfold storeByte; split <;> rfl
@[simp] theorem storeByte_platform (a : Word) (v : Byte) : (storeByte a v s).platform = s.platform := by
  unfold storeByte; split <;> rfl
@[simp] theorem storeByte_draws (a : Word) (v : Byte) : (storeByte a v s).draws = s.draws := by
  unfold storeByte; split <;> rfl
@[simp] theorem storeByte_trace (a : Word) (v : Byte) : (storeByte a v s).trace = s.trace := by
  unfold storeByte; split <;> rfl
@[simp] theorem storeByte_inbox (a : Word) (v : Byte) : (storeByte a v s).inbox = s.inbox := by
  unfold storeByte; split <;> rfl
@[simp] theorem storeByte_stop (a : Word) (v : Byte) : (storeByte a v s).stop = s.stop := by
  unfold storeByte; split <;> rfl

/-! ## writeAs -/

@[simp] theorem writeAs_regs (n : Bool) (a : Word) (v : Byte) : (writeAs n a v s).regs = s.regs :=
  storeByte_regs s a v
@[simp] theorem writeAs_flags (n : Bool) (a : Word) (v : Byte) : (writeAs n a v s).flags = s.flags :=
  storeByte_flags s a v
@[simp] theorem writeAs_pc (n : Bool) (a : Word) (v : Byte) : (writeAs n a v s).pc = s.pc :=
  storeByte_pc s a v
@[simp] theorem writeAs_i (n : Bool) (a : Word) (v : Byte) : (writeAs n a v s).i = s.i :=
  storeByte_i s a v
@[simp] theorem writeAs_rlo7 (n : Bool) (a : Word) (v : Byte) : (writeAs n a v s).rlo7 = s.rlo7 :=
  storeByte_rlo7 s a v
@[simp] theorem writeAs_rbit7 (n : Bool) (a : Word) (v : Byte) : (writeAs n a v s).rbit7 = s.rbit7 :=
  storeByte_rbit7 s a v
@[simp] theorem writeAs_iff1 (n : Bool) (a : Word) (v : Byte) : (writeAs n a v s).iff1 = s.iff1 :=
  storeByte_iff1 s a v
@[simp] theorem writeAs_iff2 (n : Bool) (a : Word) (v : Byte) : (writeAs n a v s).iff2 = s.iff2 :=
  storeByte_iff2 s a v
@[simp] theorem writeAs_im (n : Bool) (a : Word) (v : Byte) : (writeAs n a v s).im = s.im :=
  storeByte_im s a v
@[simp] theorem writeAs_halted (n : Bool) (a : Word) (v : Byte) : (writeAs n a v s).halted = s.halted :=
  storeByte_halted s a v
@[simp] theorem writeAs_eidi (n : Bool) (a : Word) (v : Byte) : (writeAs n a v s).eidi = s.eidi :=
  storeByte_eidi s a v
@[simp] theorem writeAs_afterPrefix (n : Bool) (a : Word) (v : Byte) : (writeAs n a v s).afterPrefix = s.afterPrefix :=
  storeByte_afterPrefix s a v
@[simp] theorem writeAs_nmiPending (n : Bool) (a : Word) (v : Byte) : (writeAs n a v s).nmiPending = s.nmiPending :=
  storeByte_nmiPending s a v
@[simp] theorem writeAs_waitAcc (n : Bool) (a : Word) (v : Byte) : (writeAs n a v s).waitAcc = s.waitAcc :=
  storeByte_waitAcc s a v
@[simp] theorem writeAs_tTotal (n : Bool) (a : Word) (v : Byte) : (writeAs n a v s).tTotal = s.tTotal :=
  storeByte_tTotal s a v
@[simp] theorem writeAs_t (n : Bool) (a : Word) (v : Byte) : (writeAs n a v s).t = s.t :=
  storeByte_t s a v
@[simp] theorem writeAs_ctcs (n : Bool) (a : Word) (v : Byte) : (writeAs n a v s).ctcs = s.ctcs :=
  storeByte_ctcs s a v
@[simp] theorem writeAs_pios (n : Bool) (a : Word) (v : Byte) : (writeAs n a v s).pios = s.pios :=
  storeByte_pios s a v
@[simp] theorem writeAs_platform (n : Bool) (a : Word) (v : Byte) : (writeAs n a v s).platform = s.platform :=
  storeByte_platform s a v
@[simp] theorem writeAs_draws (n : Bool) (a : Word) (v : Byte) : (writeAs n a v s).draws = s.draws :=
  storeByte_draws s a v
@[simp] theorem writeAs_trace (n : Bool) (a : Word) (v : Byte) :
    (writeAs n a v s).trace = .access { kind := .write, addr := a, value := v, notified := n } :: s.trace :=
  congrArg _ (storeByte_trace s a v)
@[simp] theorem writeAs_inbox (n : Bool) (a : Word) (v : Byte) : (writeAs n a v s).inbox = s.inbox :=
  storeByte_inbox s a v
@[simp] theorem writeAs_stop (n : Bool) (a : Word) (v : Byte) : (writeAs n a v s).stop = s.stop :=
  storeByte_stop s a v

/-! ## memWrite -/

@[simp] theorem memWrite_regs (a : Word) (v : Byte) : (memWrite a v s).regs = s.regs :=
  storeByte_regs s a v
@[simp] theorem memWrite_flags (a : Word) (v : Byte) : (memWrite a v s).flags = s.flags :=
  storeByte_flags s a v
@[simp] theorem memWrite_pc (a : Word) (v : Byte) : (memWrite a v s).pc = s.pc :=
  storeByte_pc s a v
@[simp] theorem memWrite_i (a : Word) (v : Byte) : (memWrite a v s).i = s.i :=
  storeByte_i s a v
@[simp] theorem memWrite_rlo7 (a : Word) (v : Byte) : (memWrite a v s).rlo7 = s.rlo7 :=
  storeByte_rlo7 s a v
@[simp] theorem memWrite_rbit7 (a : Word) (v : Byte) : (memWrite a v s).rbit7 = s.rbit7 :=
  storeByte_rbit7 s a v
@[simp] theorem memWrite_iff1 (a : Word) (v : Byte) : (memWrite a v s).iff1 = s.iff1 :=
  storeByte_iff1 s a v
@[simp] theorem memWrite_iff2 (a : Word) (v : Byte) : (memWrite a v s).iff2 = s.iff2 :=
  storeByte_iff2 s a v
@[simp] theorem memWrite_im (a : Word) (v : Byte) : (memWrite a v s).im = s.im :=
  storeByte_im s a v
@[simp] theorem memWrite_halted (a : Word) (v : Byte) : (memWrite a v s).halted = s.halted :=
  storeByte_halted s a v
@[simp] theorem memWrite_eidi (a : Word) (v : Byte) : (memWrite a v s).eidi = s.eidi :=
  storeByte_eidi s a v
@[simp] theorem memWrite_afterPrefix (a : Word) (v : Byte) : (memWrite a v s).afterPrefix = s.afterPrefix :=
  storeByte_afterPrefix s a v
@[simp] theorem memWrite_nmiPending (a : Word) (v : Byte) : (memWrite a v s).nmiPending = s.nmiPending :=
  storeByte_nmiPending s a v
@[simp] theorem memWrite_waitAcc (a : Word) (v : Byte) : (memWrite a v s).waitAcc = s.waitAcc :=
  storeByte_waitAcc s a v
@[simp] theorem memWrite_tTotal (a : Word) (v : Byte) : (memWrite a v s).tTotal = s.tTotal :=
  storeByte_tTotal s a v
@[simp] theorem memWrite_t (a : Word) (v : Byte) : (memWrite a v s).t = s.t :=
  storeByte_t s a v
@[simp] theorem memWrite_ctcs (a : Word) (v : Byte) : (memWrite a v s).ctcs = s.ctcs :=
  storeByte_ctcs s a v
@[simp] theorem memWrite_pios (a : Word) (v : Byte) : (memWrite a v s).pios = s.pios :=
  storeByte_pios s a v
@[simp] theorem memWrite_platform (a : Word) (v : Byte) : (memWrite a v s).platform = s.platform :=
  storeByte_platform s a v
@[simp] theorem memWrite_draws (a : Word) (v : Byte) : (memWrite a v s).draws = s.draws :=
  storeByte_draws s a v
@[simp] theorem memWrite_trace (a : Word) (v : Byte) :
    (memWrite a v s).trace = .access { kind := .write, addr := a, value := v, notified := true } :: s.trace :=
  congrArg _ (storeByte_trace s a v)
@[simp] theorem memWrite_inbox (a : Word) (v : Byte) : (memWrite a v s).inbox = s.inbox :=
  storeByte_inbox s a v
@[simp] theorem memWrite_stop (a : Word) (v : Byte) : (memWrite a v s).stop = s.stop :=
  storeByte_stop s a v

end Sys2Proof.Machine
end

