-- ==== Sys2Proof/Laws/Ops.lean ====
section
/-! SUPPORT. One lemma for each shared operation that says everything it can do: memory and I/O accesses, the
stack, the fetch, the interrupt sources, taking an interrupt and returning from one. -/

namespace Sys2Proof.Machine

/-! ## T-states -/

/-- A table with no row of its own is the default (00_scope.md R5). -/
theorem cost_default {s : State} (h : s.platform.tstates.rows = []) (i : Instr) (n : Nat) :
    s.cost i n = n ∧ s.costNot i n = n := by
  simp [State.cost, State.costNot, tableRow, h]

/-- A row of the table decides for its form, the first one first. -/
theorem cost_row {s : State} {r : TStateRow} {rest : List TStateRow} (h : s.platform.tstates.rows = r :: rest)
    {i : Instr} (hi : r.form.ctorIdx = i.ctorIdx) (n : Nat) : s.cost i n = r.taken ∧ s.costNot i n = r.other := by
  simp [State.cost, State.costNot, tableRow, h, hi]

/-- The count depends on the platform only. -/
theorem cost_congr {s u : State} (h : u.platform = s.platform) (i : Instr) (n : Nat) :
    u.cost i n = s.cost i n ∧ u.costNot i n = s.costNot i n := by
  simp [State.cost, State.costNot, h]

/-! ## Memory accesses -/

theorem readAs_value (k : AccessKind) (n : Bool) (a : Word) (s : State) : (readAs k n a s).1 = peek s a := rfl

/-- A read changes only the trace and the count of free values. -/
theorem readAs_state (k : AccessKind) (n : Bool) (a : Word) (s : State) :
    (readAs k n a s).2 = { s with draws := s.draws + drawsOf s a, trace := (readAs k n a s).2.trace } := rfl

/-- A write changes only memory and the trace. -/
theorem writeAs_state (n : Bool) (a : Word) (v : Byte) (s : State) :
    writeAs n a v s = { s with mem := (writeAs n a v s).mem, trace := (writeAs n a v s).trace } := by
  unfold writeAs storeByte
  split <;> rfl

/-- A write stores the byte where there is RAM and leaves every other byte (R69). -/
theorem stored_storeByte {s : State} (hm : s.mem.wf = true) (a b : Word) (v : Byte) :
    stored (storeByte a v s) b = if b = a ∧ memKind s.platform a = .ram then v else stored s b := by
  unfold storeByte stored
  by_cases h : memKind s.platform a = .ram
  · simp only [h, if_true, Memory.read_write hm, BitVec.toNat_inj, and_true]
  · simp [h]

theorem stored_writeAs {s : State} (hm : s.mem.wf = true) (n : Bool) (a b : Word) (v : Byte) :
    stored (writeAs n a v s) b = if b = a ∧ memKind s.platform a = .ram then v else stored s b :=
  stored_storeByte hm a b v

theorem stored_memWrite {s : State} (hm : s.mem.wf = true) (a b : Word) (v : Byte) :
    stored (memWrite a v s) b = if b = a ∧ memKind s.platform a = .ram then v else stored s b :=
  stored_storeByte hm a b v

/-- What a read gives depends on the platform, the memory and the count of free values only. -/
theorem heldByte_congr {s u : State} (hp : u.platform = s.platform) (hm : u.mem = s.mem) (d : Nat) (a : Word) :
    heldByte u d a = heldByte s d a := by simp [heldByte, stored, hp, hm]

theorem drawsOf_congr {s u : State} (hp : u.platform = s.platform) (a : Word) : drawsOf u a = drawsOf s a := by
  simp [drawsOf, hp]

/-- Two reads: low byte at `a`, high byte at `a + 1` (R62, R71). -/
theorem readWord_spec (k : WordAccess) (a : Word) (s : State) :
    readWord k a s =
      (mkWord (heldByte s (s.draws + drawsOf s a) (a + 1)) (peek s a),
        { s with
          draws := s.draws + drawsOf s a + drawsOf s (a + 1), trace := (readWord k a s).2.trace }) := rfl

/-- Two writes: low byte at `a`, high byte at `a + 1` (R62, R71). -/
theorem writeWord_state (k : WordAccess) (a v : Word) (s : State) :
    writeWord k a v s = { s with mem := (writeWord k a v s).mem, trace := (writeWord k a v s).trace } := by
  unfold writeWord
  rw [writeAs_state _ (a + 1), writeAs_state true a]

theorem stored_writeWord {s : State} (hm : s.mem.wf = true) (k : WordAccess) (a v b : Word) :
    stored (writeWord k a v s) b =
      if b = a + 1 ∧ memKind s.platform (a + 1) = .ram then hiByte v
      else if b = a ∧ memKind s.platform a = .ram then loByte v
      else stored s b := by
  unfold writeWord
  rw [stored_writeAs (writeAs_wf _ _ _ hm), stored_writeAs hm, writeAs_platform]

/-! ## The stack -/

/-- `Push16(v)` changes SP, memory and the trace (R79). -/
theorem push16_state (v : Word) (s : State) :
    push16 v s =
      { s with
        regs := { s.regs with sp := s.regs.sp - 2 }
        mem := (push16 v s).mem
        trace := (push16 v s).trace } := by
  unfold push16
  simp only [setSp]
  rw [writeAs_state true (s.regs.sp - 2), writeAs_state _ (s.regs.sp - 1)]

/-- `Push16(v)` stores the low byte at SP - 2 and the high byte at SP - 1 (R79). -/
theorem stored_push16 {s : State} (hm : s.mem.wf = true) (v b : Word) :
    stored (push16 v s) b =
      if b = s.regs.sp - 2 + 1 ∧ memKind s.platform (s.regs.sp - 2 + 1) = .ram then hiByte v
      else if b = s.regs.sp - 2 ∧ memKind s.platform (s.regs.sp - 2) = .ram then loByte v
      else stored s b := by
  have e : s.regs.sp - 2 + 1 = s.regs.sp - 1 := by bv_omega
  rw [e]
  change stored (writeAs true (s.regs.sp - 2) (loByte v)
    (writeAs (highNotifies s .push) (s.regs.sp - 1) (hiByte v) s)) b = _
  rw [stored_writeAs (writeAs_wf _ _ _ hm), stored_writeAs hm, writeAs_platform]
  by_cases h1 : b = s.regs.sp - 1
  · have h2 : ¬b = s.regs.sp - 2 := by rw [h1]; bv_omega
    have h3 : ∀ p : Prop, ¬(b = s.regs.sp - 2 ∧ p) := fun _ h => h2 h.1
    rw [if_neg (h3 _), if_neg (h3 _)]
  · simp only [h1, false_and, if_false]

/-- `Pop16()` reads the word at SP and adds 2 to SP (R79). -/
theorem pop16_spec (s : State) :
    pop16 s =
      (mkWord (heldByte s (s.draws + drawsOf s s.regs.sp) (s.regs.sp + 1)) (peek s s.regs.sp),
        { s with
          regs := { s.regs with sp := s.regs.sp + 2 }
          draws := s.draws + drawsOf s s.regs.sp + drawsOf s (s.regs.sp + 1)
          trace := (pop16 s).2.trace }) := rfl

/-! ## Instruction fetch -/

theorem fetchM1s_spec (n : Nat) (s : State) :
    ∃ d tr, fetchM1s n s =
      { s with
        pc := s.pc + BitVec.ofNat 16 n
        rlo7 := s.rlo7 + BitVec.ofNat 7 n
        draws := s.draws + d
        trace := tr } := by
  induction n generalizing s with
  | zero => exact ⟨0, s.trace, by simp [fetchM1s]⟩
  | succ n ih =>
    obtain ⟨d, tr, h⟩ := ih (fetchM1 s)
    refine ⟨drawsOf s s.pc + d, tr, ?_⟩
    rw [fetchM1s, h]
    simp [fetchM1, incR, setPc, readAs, observe, Nat.add_comm n 1, BitVec.ofNat_add, BitVec.add_assoc, Nat.add_assoc]

theorem fetchOperands_spec (n : Nat) (s : State) :
    ∃ d tr, fetchOperands n s =
      { s with pc := s.pc + BitVec.ofNat 16 n, draws := s.draws + d, trace := tr } := by
  induction n generalizing s with
  | zero => exact ⟨0, s.trace, by simp [fetchOperands]⟩
  | succ n ih =>
    obtain ⟨d, tr, h⟩ := ih (fetchOperand true s)
    refine ⟨drawsOf s s.pc + d, tr, ?_⟩
    rw [fetchOperands, h]
    simp [fetchOperand, setPc, readAs, observe, Nat.add_comm n 1, BitVec.ofNat_add, BitVec.add_assoc, Nat.add_assoc]

/-- The fetch of an instruction's bytes, the first `done` opcode bytes fetched before: PC, R, the count of free
values and the trace change (R26, R28, R111). -/
theorem fetchCode_spec (done : Nat) (c : Code) (s : State) (hc : c.imm16 = true → c.operand.length = 2) :
    ∃ d tr, fetchCode done c s =
      { s with
        pc := s.pc + BitVec.ofNat 16 (c.m1.length - done + c.operand.length)
        rlo7 := s.rlo7 + BitVec.ofNat 7 (c.m1.length - done)
        draws := s.draws + d
        trace := tr } := by
  obtain ⟨d, tr, h⟩ := fetchM1s_spec (c.m1.length - done) s
  unfold fetchCode
  by_cases hi : c.imm16 = true
  · rw [if_pos hi, h, hc hi]
    let s1 : State :=
      { s with
        pc := s.pc + BitVec.ofNat 16 (c.m1.length - done)
        rlo7 := s.rlo7 + BitVec.ofNat 7 (c.m1.length - done)
        draws := s.draws + d
        trace := tr }
    refine ⟨d + drawsOf s s1.pc + drawsOf s (s1.pc + 1),
      (fetchOperand (highNotifies s .imm16) (fetchOperand true s1)).trace, ?_⟩
    have e : s1.pc + 1 + 1 = s.pc + BitVec.ofNat 16 (c.m1.length - done + 2) := by
      simp [s1, BitVec.ofNat_add, BitVec.add_assoc]
    rw [← e, ← Nat.add_assoc, ← Nat.add_assoc]
    rfl
  · rw [if_neg hi, h]
    obtain ⟨d', tr', h'⟩ := fetchOperands_spec c.operand.length
      { s with
        pc := s.pc + BitVec.ofNat 16 (c.m1.length - done)
        rlo7 := s.rlo7 + BitVec.ofNat 7 (c.m1.length - done)
        draws := s.draws + d
        trace := tr }
    refine ⟨d + d', tr', ?_⟩
    rw [h']
    simp [BitVec.ofNat_add, BitVec.add_assoc, Nat.add_assoc]

/-! ## I/O -/

/-- A port that no device answers reads IO_UNMAPPED, else the next free value (R66). -/
theorem unanswered_spec (s : State) :
    unanswered s = match s.platform.ioUnmapped with
      | some v => (v, s)
      | none => (Config.freeByte s.draws, { s with draws := s.draws + 1 }) := rfl

/-- A port read changes only the PIO chips and the count of free values (R66, R72). -/
theorem portRead_state (p : Word) (s : State) :
    (portRead p s).2 = { s with pios := (portRead p s).2.pios, draws := (portRead p s).2.draws } := by
  unfold portRead unanswered
  repeat' split
  all_goals rfl

/-- A port write changes only the chips (R66). -/
theorem portWrite_state (p : Word) (v : Byte) (s : State) :
    portWrite p v s = { s with ctcs := (portWrite p v s).ctcs, pios := (portWrite p v s).pios } := by
  unfold portWrite
  repeat' split
  all_goals rfl

/-- No port access adds or removes a chip. -/
theorem portRead_length (p : Word) (s : State) : (portRead p s).2.pios.length = s.pios.length := by
  unfold portRead unanswered
  repeat' split
  all_goals simp [drawByte]

theorem portWrite_length (p : Word) (v : Byte) (s : State) :
    (portWrite p v s).ctcs.length = s.ctcs.length ∧ (portWrite p v s).pios.length = s.pios.length := by
  unfold portWrite
  repeat' split
  all_goals simp

/-! ## Interrupt sources -/

/-- Accepting a source changes only the chips (R401). -/
theorem sourceAccept_state (id : SourceId) (s : State) :
    (sourceAccept id s).2 = { s with ctcs := (sourceAccept id s).2.ctcs, pios := (sourceAccept id s).2.pios } := by
  unfold sourceAccept
  repeat' split
  all_goals rfl

/-- Finishing a source's service changes only the chips (R401). -/
theorem sourceFinish_state (id : SourceId) (s : State) :
    sourceFinish id s = { s with ctcs := (sourceFinish id s).ctcs, pios := (sourceFinish id s).pios } := by
  unfold sourceFinish
  repeat' split
  all_goals rfl

theorem finishService_state (s : State) :
    finishService s = { s with ctcs := (finishService s).ctcs, pios := (finishService s).pios } := by
  unfold finishService
  split
  · exact sourceFinish_state _ s
  · rfl

/-- The scan answers the first source that requests, if none before it requests or is in service (R407). -/
theorem scanSources_spec (s : State) (ids : List SourceId) (id : SourceId) :
    scanSources s ids = some id ↔
      ∃ before after, ids = before ++ id :: after ∧ sourceRequests s id = true ∧ sourceAccepted s id = false ∧
        ∀ x ∈ before, sourceRequests s x = false ∧ sourceAccepted s x = false := by
  induction ids with
  | nil => simp [scanSources]
  | cons x rest ih =>
    unfold scanSources
    by_cases ha : sourceAccepted s x = true
    · rw [if_pos ha]
      constructor
      · intro h; cases h
      · rintro ⟨before, after, h, h1, h2, h3⟩
        cases before with
        | nil => simp at h; rw [h.1] at ha; simp [ha] at h2
        | cons y ys =>
          simp only [List.cons_append, List.cons.injEq] at h
          have := (h3 y (List.mem_cons_self ..)).2
          rw [← h.1, ha] at this
          cases this
    · rw [if_neg ha]
      by_cases hr : sourceRequests s x = true
      · rw [if_pos hr]
        constructor
        · intro h
          cases h
          exact ⟨[], rest, rfl, hr, by simpa using ha, by simp⟩
        · rintro ⟨before, after, h, h1, h2, h3⟩
          cases before with
          | nil => simp at h; rw [h.1]
          | cons y ys =>
            simp only [List.cons_append, List.cons.injEq] at h
            have := (h3 y (List.mem_cons_self ..)).1
            rw [← h.1, hr] at this
            cases this
      · rw [if_neg hr, ih]
        constructor
        · rintro ⟨before, after, h, h1, h2, h3⟩
          refine ⟨x :: before, after, by rw [h]; rfl, h1, h2, ?_⟩
          intro y hy
          rcases List.mem_cons.1 hy with rfl | hy
          · exact ⟨by simpa using hr, by simpa using ha⟩
          · exact h3 y hy
        · rintro ⟨before, after, h, h1, h2, h3⟩
          cases before with
          | nil => simp at h; rw [h.1] at hr; exact absurd h1 hr
          | cons y ys =>
            simp only [List.cons_append, List.cons.injEq] at h
            exact ⟨ys, after, h.2, h1, h2, fun z hz => h3 z (List.mem_cons_of_mem _ hz)⟩

/-! ## Taking an interrupt and returning from one -/

/-- The shared entry: PC is pushed, then the handler's address is taken from the state after the push. -/
theorem enterHandler_spec (target : State → Word × State) (cost : Nat) (s : State) :
    enterHandler target cost s =
      let r := target (push16 s.pc s)
      { r.2 with pc := r.1, t := r.2.t + cost } := rfl

/-- RET: PC is the word at SP, SP is 2 more (R348). -/
theorem returnFromCall_spec (s : State) :
    returnFromCall s =
      { s with
        pc := mkWord (heldByte s (s.draws + drawsOf s s.regs.sp) (s.regs.sp + 1)) (peek s s.regs.sp)
        regs := { s.regs with sp := s.regs.sp + 2 }
        draws := s.draws + drawsOf s s.regs.sp + drawsOf s (s.regs.sp + 1)
        trace := (returnFromCall s).trace } := rfl

/-- RETN and RETI: RET with IFF1 from IFF2 (R350, R351). -/
theorem returnFromInterrupt_spec (s : State) :
    returnFromInterrupt s = { returnFromCall s with iff1 := s.iff2 } := rfl

/-! ## The iteration -/

theorem andThen_next {r : Result} {k : State → Result} {t : State} :
    andThen r k = .next t ↔ ∃ s, r = .next s ∧ k s = .next t := by
  cases r <;> simp [andThen]

theorem step_quiet {s : State} (h : s.inbox = []) : step s = iteration s := by
  simp [step, hostThenIteration, hostPhase, h]

end Sys2Proof.Machine
end

