-- ==== Sys2Proof/Laws/PerInstr.lean ====
section
/-! SUPPORT. For every instruction: a well-formed instruction is 1 to 4 bytes long (spec/30_encoding.md
R90). -/

namespace Sys2Proof.Laws.EncodeLength

/-- R90. -/
def Statement (i : Instr) : Prop :=
  i.wellFormed = true → 1 ≤ (encode i).length ∧ (encode i).length ≤ 4

/-- A form of a fixed length meets the bound. -/
theorem ofLength {i : Instr} (n : Nat) (h : (encode i).length = n) (hn : 1 ≤ n ∧ n ≤ 4) : Statement i :=
  fun _ => h ▸ hn

/-- A base-page instruction before which a prefix is ignored has one opcode byte and at most two operand
bytes. -/
theorem ignoresIndex_length {i : Instr} (h : i.ignoresIndex = true) :
    i.codeBase.m1.length = 1 ∧ i.codeBase.operand.length ≤ 2 := by
  cases i <;> first
    | exact ⟨rfl, by decide⟩
    | exact ⟨rfl, Nat.le_refl 2⟩
    | exact ⟨rfl, Nat.le_succ 1⟩
    | exact ⟨rfl, Nat.zero_le 2⟩
    | exact absurd h Bool.false_ne_true

theorem nop : Statement (.nop) := ofLength 1 rfl (by decide)
theorem ldPNn (p : Pair) (nn : Word) : Statement (.ldPNn p nn) := ofLength 3 rfl (by decide)
theorem ldAtPpA (p : PtrPair) : Statement (.ldAtPpA p) := ofLength 1 rfl (by decide)
theorem incP (p : Pair) : Statement (.incP p) := ofLength 1 rfl (by decide)
theorem incR (r : Reg8) : Statement (.incR r) := ofLength 1 rfl (by decide)
theorem incAtHl : Statement (.incAtHl) := ofLength 1 rfl (by decide)
theorem decR (r : Reg8) : Statement (.decR r) := ofLength 1 rfl (by decide)
theorem decAtHl : Statement (.decAtHl) := ofLength 1 rfl (by decide)
theorem ldRN (r : Reg8) (n : Byte) : Statement (.ldRN r n) := ofLength 2 rfl (by decide)
theorem ldAtHlN (n : Byte) : Statement (.ldAtHlN n) := ofLength 2 rfl (by decide)
theorem rlca : Statement (.rlca) := ofLength 1 rfl (by decide)
theorem exAfAf : Statement (.exAfAf) := ofLength 1 rfl (by decide)
theorem addHlP (p : Pair) : Statement (.addHlP p) := ofLength 1 rfl (by decide)
theorem ldAAtPp (p : PtrPair) : Statement (.ldAAtPp p) := ofLength 1 rfl (by decide)
theorem decP (p : Pair) : Statement (.decP p) := ofLength 1 rfl (by decide)
theorem rrca : Statement (.rrca) := ofLength 1 rfl (by decide)
theorem djnz (e : Byte) : Statement (.djnz e) := ofLength 2 rfl (by decide)
theorem rla : Statement (.rla) := ofLength 1 rfl (by decide)
theorem jr (e : Byte) : Statement (.jr e) := ofLength 2 rfl (by decide)
theorem rra : Statement (.rra) := ofLength 1 rfl (by decide)
theorem jrC (cc : JrCond) (e : Byte) : Statement (.jrC cc e) := ofLength 2 rfl (by decide)
theorem ldAtNnHl (nn : Word) : Statement (.ldAtNnHl nn) := ofLength 3 rfl (by decide)
theorem daa : Statement (.daa) := ofLength 1 rfl (by decide)
theorem ldHlAtNn (nn : Word) : Statement (.ldHlAtNn nn) := ofLength 3 rfl (by decide)
theorem cpl : Statement (.cpl) := ofLength 1 rfl (by decide)
theorem ldAtNnA (nn : Word) : Statement (.ldAtNnA nn) := ofLength 3 rfl (by decide)
theorem scf : Statement (.scf) := ofLength 1 rfl (by decide)
theorem ldAAtNn (nn : Word) : Statement (.ldAAtNn nn) := ofLength 3 rfl (by decide)
theorem ccf : Statement (.ccf) := ofLength 1 rfl (by decide)
theorem ldRS (r : Reg8) (r2 : Reg8) : Statement (.ldRS r r2) := ofLength 1 rfl (by decide)
theorem ldRAtHl (r : Reg8) : Statement (.ldRAtHl r) := ofLength 1 rfl (by decide)
theorem ldAtHlS (r : Reg8) : Statement (.ldAtHlS r) := ofLength 1 rfl (by decide)
theorem halt : Statement (.halt) := ofLength 1 rfl (by decide)
theorem addS (r : Reg8) : Statement (.addS r) := ofLength 1 rfl (by decide)
theorem addAtHl : Statement (.addAtHl) := ofLength 1 rfl (by decide)
theorem addN (n : Byte) : Statement (.addN n) := ofLength 2 rfl (by decide)
theorem adcS (r : Reg8) : Statement (.adcS r) := ofLength 1 rfl (by decide)
theorem adcAtHl : Statement (.adcAtHl) := ofLength 1 rfl (by decide)
theorem adcN (n : Byte) : Statement (.adcN n) := ofLength 2 rfl (by decide)
theorem subS (r : Reg8) : Statement (.subS r) := ofLength 1 rfl (by decide)
theorem subAtHl : Statement (.subAtHl) := ofLength 1 rfl (by decide)
theorem subN (n : Byte) : Statement (.subN n) := ofLength 2 rfl (by decide)
theorem sbcS (r : Reg8) : Statement (.sbcS r) := ofLength 1 rfl (by decide)
theorem sbcAtHl : Statement (.sbcAtHl) := ofLength 1 rfl (by decide)
theorem sbcN (n : Byte) : Statement (.sbcN n) := ofLength 2 rfl (by decide)
theorem andS (r : Reg8) : Statement (.andS r) := ofLength 1 rfl (by decide)
theorem andAtHl : Statement (.andAtHl) := ofLength 1 rfl (by decide)
theorem andN (n : Byte) : Statement (.andN n) := ofLength 2 rfl (by decide)
theorem xorS (r : Reg8) : Statement (.xorS r) := ofLength 1 rfl (by decide)
theorem xorAtHl : Statement (.xorAtHl) := ofLength 1 rfl (by decide)
theorem xorN (n : Byte) : Statement (.xorN n) := ofLength 2 rfl (by decide)
theorem orS (r : Reg8) : Statement (.orS r) := ofLength 1 rfl (by decide)
theorem orAtHl : Statement (.orAtHl) := ofLength 1 rfl (by decide)
theorem orN (n : Byte) : Statement (.orN n) := ofLength 2 rfl (by decide)
theorem cpS (r : Reg8) : Statement (.cpS r) := ofLength 1 rfl (by decide)
theorem cpAtHl : Statement (.cpAtHl) := ofLength 1 rfl (by decide)
theorem cpN (n : Byte) : Statement (.cpN n) := ofLength 2 rfl (by decide)
theorem retC (cc : Cond) : Statement (.retC cc) := ofLength 1 rfl (by decide)
theorem popQ (q : StackPair) : Statement (.popQ q) := ofLength 1 rfl (by decide)
theorem jpC (cc : Cond) (nn : Word) : Statement (.jpC cc nn) := ofLength 3 rfl (by decide)
theorem jp (nn : Word) : Statement (.jp nn) := ofLength 3 rfl (by decide)
theorem callC (cc : Cond) (nn : Word) : Statement (.callC cc nn) := ofLength 3 rfl (by decide)
theorem pushQ (q : StackPair) : Statement (.pushQ q) := ofLength 1 rfl (by decide)
theorem rst (k : BitVec 3) : Statement (.rst k) := ofLength 1 rfl (by decide)
theorem ret : Statement (.ret) := ofLength 1 rfl (by decide)
theorem prefixCb : Statement (.prefixCb) := ofLength 1 rfl (by decide)
theorem call (nn : Word) : Statement (.call nn) := ofLength 3 rfl (by decide)
theorem outNA (n : Byte) : Statement (.outNA n) := ofLength 2 rfl (by decide)
theorem exx : Statement (.exx) := ofLength 1 rfl (by decide)
theorem inAN (n : Byte) : Statement (.inAN n) := ofLength 2 rfl (by decide)
theorem prefixDd : Statement (.prefixDd) := ofLength 1 rfl (by decide)
theorem exAtSpHl : Statement (.exAtSpHl) := ofLength 1 rfl (by decide)
theorem jpHl : Statement (.jpHl) := ofLength 1 rfl (by decide)
theorem exDeHl : Statement (.exDeHl) := ofLength 1 rfl (by decide)
theorem prefixEd : Statement (.prefixEd) := ofLength 1 rfl (by decide)
theorem di : Statement (.di) := ofLength 1 rfl (by decide)
theorem ldSpHl : Statement (.ldSpHl) := ofLength 1 rfl (by decide)
theorem ei : Statement (.ei) := ofLength 1 rfl (by decide)
theorem prefixFd : Statement (.prefixFd) := ofLength 1 rfl (by decide)
theorem rlcR (r : Reg8) : Statement (.rlcR r) := ofLength 2 rfl (by decide)
theorem rlcAtHl : Statement (.rlcAtHl) := ofLength 2 rfl (by decide)
theorem rrcR (r : Reg8) : Statement (.rrcR r) := ofLength 2 rfl (by decide)
theorem rrcAtHl : Statement (.rrcAtHl) := ofLength 2 rfl (by decide)
theorem rlR (r : Reg8) : Statement (.rlR r) := ofLength 2 rfl (by decide)
theorem rlAtHl : Statement (.rlAtHl) := ofLength 2 rfl (by decide)
theorem rrR (r : Reg8) : Statement (.rrR r) := ofLength 2 rfl (by decide)
theorem rrAtHl : Statement (.rrAtHl) := ofLength 2 rfl (by decide)
theorem slaR (r : Reg8) : Statement (.slaR r) := ofLength 2 rfl (by decide)
theorem slaAtHl : Statement (.slaAtHl) := ofLength 2 rfl (by decide)
theorem sraR (r : Reg8) : Statement (.sraR r) := ofLength 2 rfl (by decide)
theorem sraAtHl : Statement (.sraAtHl) := ofLength 2 rfl (by decide)
theorem sllR (r : Reg8) : Statement (.sllR r) := ofLength 2 rfl (by decide)
theorem sllAtHl : Statement (.sllAtHl) := ofLength 2 rfl (by decide)
theorem srlR (r : Reg8) : Statement (.srlR r) := ofLength 2 rfl (by decide)
theorem srlAtHl : Statement (.srlAtHl) := ofLength 2 rfl (by decide)
theorem bitR (b : BitVec 3) (r : Reg8) : Statement (.bitR b r) := ofLength 2 rfl (by decide)
theorem bitAtHl (b : BitVec 3) : Statement (.bitAtHl b) := ofLength 2 rfl (by decide)
theorem resR (b : BitVec 3) (r : Reg8) : Statement (.resR b r) := ofLength 2 rfl (by decide)
theorem resAtHl (b : BitVec 3) : Statement (.resAtHl b) := ofLength 2 rfl (by decide)
theorem setR (b : BitVec 3) (r : Reg8) : Statement (.setR b r) := ofLength 2 rfl (by decide)
theorem setAtHl (b : BitVec 3) : Statement (.setAtHl b) := ofLength 2 rfl (by decide)
theorem inRC (r : Reg8) : Statement (.inRC r) := ofLength 2 rfl (by decide)
theorem inC : Statement (.inC) := ofLength 2 rfl (by decide)
theorem outCR (r : Reg8) : Statement (.outCR r) := ofLength 2 rfl (by decide)
theorem outC0 : Statement (.outC0) := ofLength 2 rfl (by decide)
theorem sbcHlP (p : Pair) : Statement (.sbcHlP p) := ofLength 2 rfl (by decide)
theorem adcHlP (p : Pair) : Statement (.adcHlP p) := ofLength 2 rfl (by decide)
theorem ldAtNnP (p : Pair) (nn : Word) : Statement (.ldAtNnP p nn) := ofLength 4 rfl (by decide)
theorem ldPAtNn (p : Pair) (nn : Word) : Statement (.ldPAtNn p nn) := ofLength 4 rfl (by decide)
theorem neg (x : BitVec 3) : Statement (.neg x) := ofLength 2 rfl (by decide)
theorem retn (x : BitVec 3) : Statement (.retn x) := ofLength 2 rfl (by decide)
theorem reti : Statement (.reti) := ofLength 2 rfl (by decide)
theorem im0 (x1 : Bool) (x0 : Bool) : Statement (.im0 x1 x0) := ofLength 2 rfl (by decide)
theorem im1 (x1 : Bool) : Statement (.im1 x1) := ofLength 2 rfl (by decide)
theorem im2 (x1 : Bool) : Statement (.im2 x1) := ofLength 2 rfl (by decide)
theorem ldIA : Statement (.ldIA) := ofLength 2 rfl (by decide)
theorem ldRA : Statement (.ldRA) := ofLength 2 rfl (by decide)
theorem ldAI : Statement (.ldAI) := ofLength 2 rfl (by decide)
theorem ldAR : Statement (.ldAR) := ofLength 2 rfl (by decide)
theorem rrd : Statement (.rrd) := ofLength 2 rfl (by decide)
theorem rld : Statement (.rld) := ofLength 2 rfl (by decide)
theorem ldi : Statement (.ldi) := ofLength 2 rfl (by decide)
theorem cpi : Statement (.cpi) := ofLength 2 rfl (by decide)
theorem ini : Statement (.ini) := ofLength 2 rfl (by decide)
theorem outi : Statement (.outi) := ofLength 2 rfl (by decide)
theorem ldd : Statement (.ldd) := ofLength 2 rfl (by decide)
theorem cpd : Statement (.cpd) := ofLength 2 rfl (by decide)
theorem ind : Statement (.ind) := ofLength 2 rfl (by decide)
theorem outd : Statement (.outd) := ofLength 2 rfl (by decide)
theorem ldir : Statement (.ldir) := ofLength 2 rfl (by decide)
theorem cpir : Statement (.cpir) := ofLength 2 rfl (by decide)
theorem inir : Statement (.inir) := ofLength 2 rfl (by decide)
theorem otir : Statement (.otir) := ofLength 2 rfl (by decide)
theorem lddr : Statement (.lddr) := ofLength 2 rfl (by decide)
theorem cpdr : Statement (.cpdr) := ofLength 2 rfl (by decide)
theorem indr : Statement (.indr) := ofLength 2 rfl (by decide)
theorem otdr : Statement (.otdr) := ofLength 2 rfl (by decide)
theorem nopEd (op : Byte) : Statement (.nopEd op) := ofLength 2 rfl (by decide)
theorem addIxP (p : XPair) : Statement (.addIxP p) := ofLength 2 rfl (by decide)
theorem ldIxNn (nn : Word) : Statement (.ldIxNn nn) := ofLength 4 rfl (by decide)
theorem ldAtNnIx (nn : Word) : Statement (.ldAtNnIx nn) := ofLength 4 rfl (by decide)
theorem incIx : Statement (.incIx) := ofLength 2 rfl (by decide)
theorem incIxh : Statement (.incIxh) := ofLength 2 rfl (by decide)
theorem decIxh : Statement (.decIxh) := ofLength 2 rfl (by decide)
theorem ldIxhN (n : Byte) : Statement (.ldIxhN n) := ofLength 3 rfl (by decide)
theorem ldIxAtNn (nn : Word) : Statement (.ldIxAtNn nn) := ofLength 4 rfl (by decide)
theorem decIx : Statement (.decIx) := ofLength 2 rfl (by decide)
theorem incIxl : Statement (.incIxl) := ofLength 2 rfl (by decide)
theorem decIxl : Statement (.decIxl) := ofLength 2 rfl (by decide)
theorem ldIxlN (n : Byte) : Statement (.ldIxlN n) := ofLength 3 rfl (by decide)
theorem incAtIx (d : Byte) : Statement (.incAtIx d) := ofLength 3 rfl (by decide)
theorem decAtIx (d : Byte) : Statement (.decAtIx d) := ofLength 3 rfl (by decide)
theorem ldAtIxN (d : Byte) (n : Byte) : Statement (.ldAtIxN d n) := ofLength 4 rfl (by decide)
theorem ldRSIx (r : XReg8) (r2 : XReg8) : Statement (.ldRSIx r r2) := ofLength 2 rfl (by decide)
theorem ldRAtIx (r : Reg8) (d : Byte) : Statement (.ldRAtIx r d) := ofLength 3 rfl (by decide)
theorem ldAtIxS (d : Byte) (r : Reg8) : Statement (.ldAtIxS d r) := ofLength 3 rfl (by decide)
theorem addIxHalf (h : Half) : Statement (.addIxHalf h) := ofLength 2 rfl (by decide)
theorem addAtIx (d : Byte) : Statement (.addAtIx d) := ofLength 3 rfl (by decide)
theorem adcIxHalf (h : Half) : Statement (.adcIxHalf h) := ofLength 2 rfl (by decide)
theorem adcAtIx (d : Byte) : Statement (.adcAtIx d) := ofLength 3 rfl (by decide)
theorem subIxHalf (h : Half) : Statement (.subIxHalf h) := ofLength 2 rfl (by decide)
theorem subAtIx (d : Byte) : Statement (.subAtIx d) := ofLength 3 rfl (by decide)
theorem sbcIxHalf (h : Half) : Statement (.sbcIxHalf h) := ofLength 2 rfl (by decide)
theorem sbcAtIx (d : Byte) : Statement (.sbcAtIx d) := ofLength 3 rfl (by decide)
theorem andIxHalf (h : Half) : Statement (.andIxHalf h) := ofLength 2 rfl (by decide)
theorem andAtIx (d : Byte) : Statement (.andAtIx d) := ofLength 3 rfl (by decide)
theorem xorIxHalf (h : Half) : Statement (.xorIxHalf h) := ofLength 2 rfl (by decide)
theorem xorAtIx (d : Byte) : Statement (.xorAtIx d) := ofLength 3 rfl (by decide)
theorem orIxHalf (h : Half) : Statement (.orIxHalf h) := ofLength 2 rfl (by decide)
theorem orAtIx (d : Byte) : Statement (.orAtIx d) := ofLength 3 rfl (by decide)
theorem cpIxHalf (h : Half) : Statement (.cpIxHalf h) := ofLength 2 rfl (by decide)
theorem cpAtIx (d : Byte) : Statement (.cpAtIx d) := ofLength 3 rfl (by decide)
theorem prefixDdCb : Statement (.prefixDdCb) := ofLength 2 rfl (by decide)
theorem popIx : Statement (.popIx) := ofLength 2 rfl (by decide)
theorem exAtSpIx : Statement (.exAtSpIx) := ofLength 2 rfl (by decide)
theorem pushIx : Statement (.pushIx) := ofLength 2 rfl (by decide)
theorem jpIx : Statement (.jpIx) := ofLength 2 rfl (by decide)
theorem ldSpIx : Statement (.ldSpIx) := ofLength 2 rfl (by decide)
theorem ddThenDd : Statement (.ddThenDd) := ofLength 1 rfl (by decide)
theorem ddThenFd : Statement (.ddThenFd) := ofLength 1 rfl (by decide)
theorem ddThenEd : Statement (.ddThenEd) := ofLength 1 rfl (by decide)
theorem ddIgnored (base : Instr) : Statement (.ddIgnored base) := by
  intro h
  obtain ⟨h1, h2⟩ := ignoresIndex_length (i := base) h
  have hl : encode (.ddIgnored base) = 0xDD :: (base.codeBase.m1 ++ base.codeBase.operand) := rfl
  rw [hl, List.length_cons, List.length_append]
  omega

theorem addIyP (p : XPair) : Statement (.addIyP p) := ofLength 2 rfl (by decide)
theorem ldIyNn (nn : Word) : Statement (.ldIyNn nn) := ofLength 4 rfl (by decide)
theorem ldAtNnIy (nn : Word) : Statement (.ldAtNnIy nn) := ofLength 4 rfl (by decide)
theorem incIy : Statement (.incIy) := ofLength 2 rfl (by decide)
theorem incIyh : Statement (.incIyh) := ofLength 2 rfl (by decide)
theorem decIyh : Statement (.decIyh) := ofLength 2 rfl (by decide)
theorem ldIyhN (n : Byte) : Statement (.ldIyhN n) := ofLength 3 rfl (by decide)
theorem ldIyAtNn (nn : Word) : Statement (.ldIyAtNn nn) := ofLength 4 rfl (by decide)
theorem decIy : Statement (.decIy) := ofLength 2 rfl (by decide)
theorem incIyl : Statement (.incIyl) := ofLength 2 rfl (by decide)
theorem decIyl : Statement (.decIyl) := ofLength 2 rfl (by decide)
theorem ldIylN (n : Byte) : Statement (.ldIylN n) := ofLength 3 rfl (by decide)
theorem incAtIy (d : Byte) : Statement (.incAtIy d) := ofLength 3 rfl (by decide)
theorem decAtIy (d : Byte) : Statement (.decAtIy d) := ofLength 3 rfl (by decide)
theorem ldAtIyN (d : Byte) (n : Byte) : Statement (.ldAtIyN d n) := ofLength 4 rfl (by decide)
theorem ldRSIy (r : XReg8) (r2 : XReg8) : Statement (.ldRSIy r r2) := ofLength 2 rfl (by decide)
theorem ldRAtIy (r : Reg8) (d : Byte) : Statement (.ldRAtIy r d) := ofLength 3 rfl (by decide)
theorem ldAtIyS (d : Byte) (r : Reg8) : Statement (.ldAtIyS d r) := ofLength 3 rfl (by decide)
theorem addIyHalf (h : Half) : Statement (.addIyHalf h) := ofLength 2 rfl (by decide)
theorem addAtIy (d : Byte) : Statement (.addAtIy d) := ofLength 3 rfl (by decide)
theorem adcIyHalf (h : Half) : Statement (.adcIyHalf h) := ofLength 2 rfl (by decide)
theorem adcAtIy (d : Byte) : Statement (.adcAtIy d) := ofLength 3 rfl (by decide)
theorem subIyHalf (h : Half) : Statement (.subIyHalf h) := ofLength 2 rfl (by decide)
theorem subAtIy (d : Byte) : Statement (.subAtIy d) := ofLength 3 rfl (by decide)
theorem sbcIyHalf (h : Half) : Statement (.sbcIyHalf h) := ofLength 2 rfl (by decide)
theorem sbcAtIy (d : Byte) : Statement (.sbcAtIy d) := ofLength 3 rfl (by decide)
theorem andIyHalf (h : Half) : Statement (.andIyHalf h) := ofLength 2 rfl (by decide)
theorem andAtIy (d : Byte) : Statement (.andAtIy d) := ofLength 3 rfl (by decide)
theorem xorIyHalf (h : Half) : Statement (.xorIyHalf h) := ofLength 2 rfl (by decide)
theorem xorAtIy (d : Byte) : Statement (.xorAtIy d) := ofLength 3 rfl (by decide)
theorem orIyHalf (h : Half) : Statement (.orIyHalf h) := ofLength 2 rfl (by decide)
theorem orAtIy (d : Byte) : Statement (.orAtIy d) := ofLength 3 rfl (by decide)
theorem cpIyHalf (h : Half) : Statement (.cpIyHalf h) := ofLength 2 rfl (by decide)
theorem cpAtIy (d : Byte) : Statement (.cpAtIy d) := ofLength 3 rfl (by decide)
theorem prefixFdCb : Statement (.prefixFdCb) := ofLength 2 rfl (by decide)
theorem popIy : Statement (.popIy) := ofLength 2 rfl (by decide)
theorem exAtSpIy : Statement (.exAtSpIy) := ofLength 2 rfl (by decide)
theorem pushIy : Statement (.pushIy) := ofLength 2 rfl (by decide)
theorem jpIy : Statement (.jpIy) := ofLength 2 rfl (by decide)
theorem ldSpIy : Statement (.ldSpIy) := ofLength 2 rfl (by decide)
theorem fdThenDd : Statement (.fdThenDd) := ofLength 1 rfl (by decide)
theorem fdThenFd : Statement (.fdThenFd) := ofLength 1 rfl (by decide)
theorem fdThenEd : Statement (.fdThenEd) := ofLength 1 rfl (by decide)
theorem fdIgnored (base : Instr) : Statement (.fdIgnored base) := by
  intro h
  obtain ⟨h1, h2⟩ := ignoresIndex_length (i := base) h
  have hl : encode (.fdIgnored base) = 0xFD :: (base.codeBase.m1 ++ base.codeBase.operand) := rfl
  rw [hl, List.length_cons, List.length_append]
  omega

theorem rlcAtIx (d : Byte) : Statement (.rlcAtIx d) := ofLength 4 rfl (by decide)
theorem rlcAtIxR (d : Byte) (r : Reg8) : Statement (.rlcAtIxR d r) := ofLength 4 rfl (by decide)
theorem rrcAtIx (d : Byte) : Statement (.rrcAtIx d) := ofLength 4 rfl (by decide)
theorem rrcAtIxR (d : Byte) (r : Reg8) : Statement (.rrcAtIxR d r) := ofLength 4 rfl (by decide)
theorem rlAtIx (d : Byte) : Statement (.rlAtIx d) := ofLength 4 rfl (by decide)
theorem rlAtIxR (d : Byte) (r : Reg8) : Statement (.rlAtIxR d r) := ofLength 4 rfl (by decide)
theorem rrAtIx (d : Byte) : Statement (.rrAtIx d) := ofLength 4 rfl (by decide)
theorem rrAtIxR (d : Byte) (r : Reg8) : Statement (.rrAtIxR d r) := ofLength 4 rfl (by decide)
theorem slaAtIx (d : Byte) : Statement (.slaAtIx d) := ofLength 4 rfl (by decide)
theorem slaAtIxR (d : Byte) (r : Reg8) : Statement (.slaAtIxR d r) := ofLength 4 rfl (by decide)
theorem sraAtIx (d : Byte) : Statement (.sraAtIx d) := ofLength 4 rfl (by decide)
theorem sraAtIxR (d : Byte) (r : Reg8) : Statement (.sraAtIxR d r) := ofLength 4 rfl (by decide)
theorem sllAtIx (d : Byte) : Statement (.sllAtIx d) := ofLength 4 rfl (by decide)
theorem sllAtIxR (d : Byte) (r : Reg8) : Statement (.sllAtIxR d r) := ofLength 4 rfl (by decide)
theorem srlAtIx (d : Byte) : Statement (.srlAtIx d) := ofLength 4 rfl (by decide)
theorem srlAtIxR (d : Byte) (r : Reg8) : Statement (.srlAtIxR d r) := ofLength 4 rfl (by decide)
theorem bitAtIx (b : BitVec 3) (d : Byte) (z : BitVec 3) : Statement (.bitAtIx b d z) := ofLength 4 rfl (by decide)
theorem resAtIx (b : BitVec 3) (d : Byte) : Statement (.resAtIx b d) := ofLength 4 rfl (by decide)
theorem resAtIxR (b : BitVec 3) (d : Byte) (r : Reg8) : Statement (.resAtIxR b d r) := ofLength 4 rfl (by decide)
theorem setAtIx (b : BitVec 3) (d : Byte) : Statement (.setAtIx b d) := ofLength 4 rfl (by decide)
theorem setAtIxR (b : BitVec 3) (d : Byte) (r : Reg8) : Statement (.setAtIxR b d r) := ofLength 4 rfl (by decide)
theorem rlcAtIy (d : Byte) : Statement (.rlcAtIy d) := ofLength 4 rfl (by decide)
theorem rlcAtIyR (d : Byte) (r : Reg8) : Statement (.rlcAtIyR d r) := ofLength 4 rfl (by decide)
theorem rrcAtIy (d : Byte) : Statement (.rrcAtIy d) := ofLength 4 rfl (by decide)
theorem rrcAtIyR (d : Byte) (r : Reg8) : Statement (.rrcAtIyR d r) := ofLength 4 rfl (by decide)
theorem rlAtIy (d : Byte) : Statement (.rlAtIy d) := ofLength 4 rfl (by decide)
theorem rlAtIyR (d : Byte) (r : Reg8) : Statement (.rlAtIyR d r) := ofLength 4 rfl (by decide)
theorem rrAtIy (d : Byte) : Statement (.rrAtIy d) := ofLength 4 rfl (by decide)
theorem rrAtIyR (d : Byte) (r : Reg8) : Statement (.rrAtIyR d r) := ofLength 4 rfl (by decide)
theorem slaAtIy (d : Byte) : Statement (.slaAtIy d) := ofLength 4 rfl (by decide)
theorem slaAtIyR (d : Byte) (r : Reg8) : Statement (.slaAtIyR d r) := ofLength 4 rfl (by decide)
theorem sraAtIy (d : Byte) : Statement (.sraAtIy d) := ofLength 4 rfl (by decide)
theorem sraAtIyR (d : Byte) (r : Reg8) : Statement (.sraAtIyR d r) := ofLength 4 rfl (by decide)
theorem sllAtIy (d : Byte) : Statement (.sllAtIy d) := ofLength 4 rfl (by decide)
theorem sllAtIyR (d : Byte) (r : Reg8) : Statement (.sllAtIyR d r) := ofLength 4 rfl (by decide)
theorem srlAtIy (d : Byte) : Statement (.srlAtIy d) := ofLength 4 rfl (by decide)
theorem srlAtIyR (d : Byte) (r : Reg8) : Statement (.srlAtIyR d r) := ofLength 4 rfl (by decide)
theorem bitAtIy (b : BitVec 3) (d : Byte) (z : BitVec 3) : Statement (.bitAtIy b d z) := ofLength 4 rfl (by decide)
theorem resAtIy (b : BitVec 3) (d : Byte) : Statement (.resAtIy b d) := ofLength 4 rfl (by decide)
theorem resAtIyR (b : BitVec 3) (d : Byte) (r : Reg8) : Statement (.resAtIyR b d r) := ofLength 4 rfl (by decide)
theorem setAtIy (b : BitVec 3) (d : Byte) : Statement (.setAtIy b d) := ofLength 4 rfl (by decide)
theorem setAtIyR (b : BitVec 3) (d : Byte) (r : Reg8) : Statement (.setAtIyR b d r) := ofLength 4 rfl (by decide)

end Sys2Proof.Laws.EncodeLength
end

