-- ==== Sys2Proof/Tests/Slice0.lean ====
section
/-! SUPPORT. The model's own tests: ill-formed terms, the words of the spec's encodings, single steps from the
vectors of spec/95_test_vectors.md, and a witness for the hypotheses of each statement that has any. -/

namespace Sys2Proof.Tests

open Sys2Proof.Machine Sys2Proof.Claim

/-! ## Helpers -/

/-- The start of a vector: code at 0x1000, SP 0xFFF0 (95_test_vectors.md, conventions). -/
def boot (code : List Byte) : State :=
  { State.reset with
    pc := 0x1000
    regs := { Regs.zero with sp := 0xFFF0 }
    mem := storeBytes 0x1000 code [] }

def put (a : Word) (v : Byte) (s : State) : State := { s with mem := s.mem.write a.toNat v }
def regs (f : Regs → Regs) (s : State) : State := s.withRegs (f s.regs)
def flags (v : Byte) (s : State) : State := s.withFlags (Flags.unpack v)
def noports (s : State) : State := { s with platform := { s.platform with portMap := [] } }

/-- A port whose low byte is `p` and that reads `v`: PIO port A in mode 1. -/
def port (p : Word) (v : Byte) (s : State) : State :=
  { s with
    platform := { s.platform with portMap := [{ mask := 0x00FF, value := p, target := .pioData 0 .a }] }
    pios := [{ Pio.afterReset with a := { Port.afterReset with inp := v } }] }

def accesses (k : AccessKind) (s : State) : List (Word × Byte) :=
  s.trace.reverse.filterMap fun e =>
    match e with
    | .access x => if x.kind = k then some (x.addr, x.value) else none
    | .zeroCount _ _ => none
    | .fetchedOut _ _ _ => none

def writesOf (s : State) : List (Word × Byte) := accesses .write s
def iosOf (s : State) (k : AccessKind) : List (Word × Byte) := accesses k s

/-- One step answers a next state of which `f` holds. -/
def after (s : State) (f : State → Bool) : Bool :=
  match step s with
  | .next t => f t
  | .fault _ => false
  | .refused _ => false

def decodesAll (l : List (List Byte × Instr)) : Bool := l.all fun p => decide (decode p.1 = .ok p.2 [])

/-! ## Ill-formed terms -/

/-- LD r,s with no index half is no row of the DD page (40_load8.md R140). -/
theorem test_wf_ldRSIx : (Instr.ldRSIx .b .a).wellFormed = false ∧ (Instr.ldRSIy .e .c).wellFormed = false := by
  decide

/-- ED 4D is RETI (48_jump_call_return.md R351). -/
theorem test_wf_retn : (Instr.retn 1).wellFormed = false := by decide

/-- ED 44 is NEG (44_general.md R262). -/
theorem test_wf_nopEd : (Instr.nopEd 0x44).wellFormed = false := by decide

/-- A prefix before an instruction that names HL is not ignored (30_encoding.md R105). -/
theorem test_wf_ignored :
    (Instr.ddIgnored (.ldRN .h 0)).wellFormed = false ∧ (Instr.fdIgnored .jpHl).wellFormed = false ∧
      (Instr.ddIgnored .prefixDd).wellFormed = false := by decide

/-! ## Words, one for each constructor, from the encodings of spec/opcode_table.json -/

theorem test_words_1 : decodesAll [
    ([0x00], .nop), ([0x01, 0x34, 0x12], .ldPNn .bc 0x1234), ([0x02], .ldAtPpA .bc), ([0x13], .incP .de),
    ([0x04], .incR .b), ([0x34], .incAtHl), ([0x0D], .decR .c), ([0x35], .decAtHl),
    ([0x16, 0x5A], .ldRN .d 0x5A), ([0x36, 0x5A], .ldAtHlN 0x5A), ([0x07], .rlca), ([0x08], .exAfAf),
    ([0x29], .addHlP .hl), ([0x1A], .ldAAtPp .de), ([0x3B], .decP .sp), ([0x0F], .rrca),
    ([0x10, 0xFE], .djnz 0xFE), ([0x17], .rla), ([0x18, 0xFE], .jr 0xFE), ([0x1F], .rra),
    ([0x20, 0xFE], .jrC .nz 0xFE), ([0x22, 0x34, 0x12], .ldAtNnHl 0x1234)] = true := by decide

theorem test_words_2 : decodesAll [
    ([0x27], .daa), ([0x2A, 0x34, 0x12], .ldHlAtNn 0x1234), ([0x2F], .cpl),
    ([0x32, 0x34, 0x12], .ldAtNnA 0x1234), ([0x37], .scf), ([0x3A, 0x34, 0x12], .ldAAtNn 0x1234),
    ([0x3F], .ccf), ([0x5C], .ldRS .e .h), ([0x6E], .ldRAtHl .l), ([0x77], .ldAtHlS .a), ([0x76], .halt),
    ([0x80], .addS .b), ([0x86], .addAtHl), ([0xC6, 0x5A], .addN 0x5A), ([0x89], .adcS .c), ([0x8E], .adcAtHl),
    ([0xCE, 0x5A], .adcN 0x5A), ([0x92], .subS .d), ([0x96], .subAtHl), ([0xD6, 0x5A], .subN 0x5A),
    ([0x9B], .sbcS .e), ([0x9E], .sbcAtHl)] = true := by decide

theorem test_words_3 : decodesAll [
    ([0xDE, 0x5A], .sbcN 0x5A), ([0xA4], .andS .h), ([0xA6], .andAtHl), ([0xE6, 0x5A], .andN 0x5A),
    ([0xAD], .xorS .l), ([0xAE], .xorAtHl), ([0xEE, 0x5A], .xorN 0x5A), ([0xB7], .orS .a), ([0xB6], .orAtHl),
    ([0xF6, 0x5A], .orN 0x5A), ([0xB8], .cpS .b), ([0xBE], .cpAtHl), ([0xFE, 0x5A], .cpN 0x5A),
    ([0xC0], .retC .nz), ([0xC1], .popQ .bc), ([0xCA, 0x34, 0x12], .jpC .z 0x1234),
    ([0xC3, 0x34, 0x12], .jp 0x1234), ([0xD4, 0x34, 0x12], .callC .nc 0x1234), ([0xD5], .pushQ .de),
    ([0xF7], .rst 6), ([0xC9], .ret), ([0xCB], .prefixCb)] = true := by decide

theorem test_words_4 : decodesAll [
    ([0xCD, 0x34, 0x12], .call 0x1234), ([0xD3, 0x5A], .outNA 0x5A), ([0xD9], .exx), ([0xDB, 0x5A], .inAN 0x5A),
    ([0xDD], .prefixDd), ([0xE3], .exAtSpHl), ([0xE9], .jpHl), ([0xEB], .exDeHl), ([0xED], .prefixEd),
    ([0xF3], .di), ([0xF9], .ldSpHl), ([0xFB], .ei), ([0xFD], .prefixFd), ([0xCB, 0x01], .rlcR .c),
    ([0xCB, 0x06], .rlcAtHl), ([0xCB, 0x0A], .rrcR .d), ([0xCB, 0x0E], .rrcAtHl), ([0xCB, 0x13], .rlR .e),
    ([0xCB, 0x16], .rlAtHl), ([0xCB, 0x1C], .rrR .h), ([0xCB, 0x1E], .rrAtHl), ([0xCB, 0x25], .slaR .l)] = true := by decide

theorem test_words_5 : decodesAll [
    ([0xCB, 0x26], .slaAtHl), ([0xCB, 0x2F], .sraR .a), ([0xCB, 0x2E], .sraAtHl), ([0xCB, 0x30], .sllR .b),
    ([0xCB, 0x36], .sllAtHl), ([0xCB, 0x39], .srlR .c), ([0xCB, 0x3E], .srlAtHl), ([0xCB, 0x4A], .bitR 1 .d),
    ([0xCB, 0x6E], .bitAtHl 5), ([0xCB, 0x9B], .resR 3 .e), ([0xCB, 0xA6], .resAtHl 4),
    ([0xCB, 0xD4], .setR 2 .h), ([0xCB, 0xFE], .setAtHl 7), ([0xED, 0x68], .inRC .l), ([0xED, 0x70], .inC),
    ([0xED, 0x79], .outCR .a), ([0xED, 0x71], .outC0), ([0xED, 0x42], .sbcHlP .bc), ([0xED, 0x5A], .adcHlP .de),
    ([0xED, 0x63, 0x34, 0x12], .ldAtNnP .hl 0x1234), ([0xED, 0x7B, 0x34, 0x12], .ldPAtNn .sp 0x1234),
    ([0xED, 0x44], .neg 0)] = true := by decide

theorem test_words_6 : decodesAll [
    ([0xED, 0x75], .retn 6), ([0xED, 0x4D], .reti), ([0xED, 0x66], .im0 true false), ([0xED, 0x76], .im1 true),
    ([0xED, 0x7E], .im2 true), ([0xED, 0x47], .ldIA), ([0xED, 0x4F], .ldRA), ([0xED, 0x57], .ldAI),
    ([0xED, 0x5F], .ldAR), ([0xED, 0x67], .rrd), ([0xED, 0x6F], .rld), ([0xED, 0xA0], .ldi),
    ([0xED, 0xA1], .cpi), ([0xED, 0xA2], .ini), ([0xED, 0xA3], .outi), ([0xED, 0xA8], .ldd),
    ([0xED, 0xA9], .cpd), ([0xED, 0xAA], .ind), ([0xED, 0xAB], .outd), ([0xED, 0xB0], .ldir),
    ([0xED, 0xB1], .cpir), ([0xED, 0xB2], .inir)] = true := by decide

theorem test_words_7 : decodesAll [
    ([0xED, 0xB3], .otir), ([0xED, 0xB8], .lddr), ([0xED, 0xB9], .cpdr), ([0xED, 0xBA], .indr),
    ([0xED, 0xBB], .otdr), ([0xED, 0xFF], .nopEd 0xFF), ([0xDD, 0x09], .addIxP .bc),
    ([0xDD, 0x21, 0x34, 0x12], .ldIxNn 0x1234), ([0xDD, 0x22, 0x34, 0x12], .ldAtNnIx 0x1234),
    ([0xDD, 0x23], .incIx), ([0xDD, 0x24], .incIxh), ([0xDD, 0x25], .decIxh),
    ([0xDD, 0x26, 0x5A], .ldIxhN 0x5A), ([0xDD, 0x2A, 0x34, 0x12], .ldIxAtNn 0x1234), ([0xDD, 0x2B], .decIx),
    ([0xDD, 0x2C], .incIxl), ([0xDD, 0x2D], .decIxl), ([0xDD, 0x2E, 0x5A], .ldIxlN 0x5A),
    ([0xDD, 0x34, 0x85], .incAtIx 0x85), ([0xDD, 0x35, 0x85], .decAtIx 0x85),
    ([0xDD, 0x36, 0x85, 0x5A], .ldAtIxN 0x85 0x5A), ([0xDD, 0x60], .ldRSIx .xh .b)] = true := by decide

theorem test_words_8 : decodesAll [
    ([0xDD, 0x46, 0x85], .ldRAtIx .b 0x85), ([0xDD, 0x71, 0x85], .ldAtIxS 0x85 .c),
    ([0xDD, 0x84], .addIxHalf .hi), ([0xDD, 0x86, 0x85], .addAtIx 0x85), ([0xDD, 0x8D], .adcIxHalf .lo),
    ([0xDD, 0x8E, 0x85], .adcAtIx 0x85), ([0xDD, 0x94], .subIxHalf .hi), ([0xDD, 0x96, 0x85], .subAtIx 0x85),
    ([0xDD, 0x9D], .sbcIxHalf .lo), ([0xDD, 0x9E, 0x85], .sbcAtIx 0x85), ([0xDD, 0xA4], .andIxHalf .hi),
    ([0xDD, 0xA6, 0x85], .andAtIx 0x85), ([0xDD, 0xAD], .xorIxHalf .lo), ([0xDD, 0xAE, 0x85], .xorAtIx 0x85),
    ([0xDD, 0xB4], .orIxHalf .hi), ([0xDD, 0xB6, 0x85], .orAtIx 0x85), ([0xDD, 0xBD], .cpIxHalf .lo),
    ([0xDD, 0xBE, 0x85], .cpAtIx 0x85), ([0xDD, 0xCB], .prefixDdCb), ([0xDD, 0xE1], .popIx),
    ([0xDD, 0xE3], .exAtSpIx), ([0xDD, 0xE5], .pushIx)] = true := by decide

theorem test_words_9 : decodesAll [
    ([0xDD, 0xE9], .jpIx), ([0xDD, 0xF9], .ldSpIx), ([0xFD, 0x19], .addIyP .de),
    ([0xFD, 0x21, 0x34, 0x12], .ldIyNn 0x1234), ([0xFD, 0x22, 0x34, 0x12], .ldAtNnIy 0x1234),
    ([0xFD, 0x23], .incIy), ([0xFD, 0x24], .incIyh), ([0xFD, 0x25], .decIyh),
    ([0xFD, 0x26, 0x5A], .ldIyhN 0x5A), ([0xFD, 0x2A, 0x34, 0x12], .ldIyAtNn 0x1234), ([0xFD, 0x2B], .decIy),
    ([0xFD, 0x2C], .incIyl), ([0xFD, 0x2D], .decIyl), ([0xFD, 0x2E, 0x5A], .ldIylN 0x5A),
    ([0xFD, 0x34, 0x85], .incAtIy 0x85), ([0xFD, 0x35, 0x85], .decAtIy 0x85),
    ([0xFD, 0x36, 0x85, 0x5A], .ldAtIyN 0x85 0x5A), ([0xFD, 0x69], .ldRSIy .xl .c),
    ([0xFD, 0x56, 0x85], .ldRAtIy .d 0x85), ([0xFD, 0x73, 0x85], .ldAtIyS 0x85 .e),
    ([0xFD, 0x84], .addIyHalf .hi), ([0xFD, 0x86, 0x85], .addAtIy 0x85)] = true := by decide

theorem test_words_10 : decodesAll [
    ([0xFD, 0x8D], .adcIyHalf .lo), ([0xFD, 0x8E, 0x85], .adcAtIy 0x85), ([0xFD, 0x94], .subIyHalf .hi),
    ([0xFD, 0x96, 0x85], .subAtIy 0x85), ([0xFD, 0x9D], .sbcIyHalf .lo), ([0xFD, 0x9E, 0x85], .sbcAtIy 0x85),
    ([0xFD, 0xA4], .andIyHalf .hi), ([0xFD, 0xA6, 0x85], .andAtIy 0x85), ([0xFD, 0xAD], .xorIyHalf .lo),
    ([0xFD, 0xAE, 0x85], .xorAtIy 0x85), ([0xFD, 0xB4], .orIyHalf .hi), ([0xFD, 0xB6, 0x85], .orAtIy 0x85),
    ([0xFD, 0xBD], .cpIyHalf .lo), ([0xFD, 0xBE, 0x85], .cpAtIy 0x85), ([0xFD, 0xCB], .prefixFdCb),
    ([0xFD, 0xE1], .popIy), ([0xFD, 0xE3], .exAtSpIy), ([0xFD, 0xE5], .pushIy), ([0xFD, 0xE9], .jpIy),
    ([0xFD, 0xF9], .ldSpIy), ([0xDD, 0xCB, 0x85, 0x06], .rlcAtIx 0x85),
    ([0xDD, 0xCB, 0x85, 0x04], .rlcAtIxR 0x85 .h)] = true := by decide

theorem test_words_11 : decodesAll [
    ([0xDD, 0xCB, 0x85, 0x0E], .rrcAtIx 0x85), ([0xDD, 0xCB, 0x85, 0x0D], .rrcAtIxR 0x85 .l),
    ([0xDD, 0xCB, 0x85, 0x16], .rlAtIx 0x85), ([0xDD, 0xCB, 0x85, 0x17], .rlAtIxR 0x85 .a),
    ([0xDD, 0xCB, 0x85, 0x1E], .rrAtIx 0x85), ([0xDD, 0xCB, 0x85, 0x18], .rrAtIxR 0x85 .b),
    ([0xDD, 0xCB, 0x85, 0x26], .slaAtIx 0x85), ([0xDD, 0xCB, 0x85, 0x21], .slaAtIxR 0x85 .c),
    ([0xDD, 0xCB, 0x85, 0x2E], .sraAtIx 0x85), ([0xDD, 0xCB, 0x85, 0x2A], .sraAtIxR 0x85 .d),
    ([0xDD, 0xCB, 0x85, 0x36], .sllAtIx 0x85), ([0xDD, 0xCB, 0x85, 0x33], .sllAtIxR 0x85 .e),
    ([0xDD, 0xCB, 0x85, 0x3E], .srlAtIx 0x85), ([0xDD, 0xCB, 0x85, 0x3C], .srlAtIxR 0x85 .h),
    ([0xDD, 0xCB, 0x85, 0x4D], .bitAtIx 1 0x85 5), ([0xDD, 0xCB, 0x85, 0x9E], .resAtIx 3 0x85),
    ([0xDD, 0xCB, 0x85, 0xA5], .resAtIxR 4 0x85 .l), ([0xDD, 0xCB, 0x85, 0xD6], .setAtIx 2 0x85),
    ([0xDD, 0xCB, 0x85, 0xFF], .setAtIxR 7 0x85 .a), ([0xFD, 0xCB, 0x85, 0x06], .rlcAtIy 0x85),
    ([0xFD, 0xCB, 0x85, 0x00], .rlcAtIyR 0x85 .b), ([0xFD, 0xCB, 0x85, 0x0E], .rrcAtIy 0x85)] = true := by decide

theorem test_words_12 : decodesAll [
    ([0xFD, 0xCB, 0x85, 0x09], .rrcAtIyR 0x85 .c), ([0xFD, 0xCB, 0x85, 0x16], .rlAtIy 0x85),
    ([0xFD, 0xCB, 0x85, 0x12], .rlAtIyR 0x85 .d), ([0xFD, 0xCB, 0x85, 0x1E], .rrAtIy 0x85),
    ([0xFD, 0xCB, 0x85, 0x1B], .rrAtIyR 0x85 .e), ([0xFD, 0xCB, 0x85, 0x26], .slaAtIy 0x85),
    ([0xFD, 0xCB, 0x85, 0x24], .slaAtIyR 0x85 .h), ([0xFD, 0xCB, 0x85, 0x2E], .sraAtIy 0x85),
    ([0xFD, 0xCB, 0x85, 0x2D], .sraAtIyR 0x85 .l), ([0xFD, 0xCB, 0x85, 0x36], .sllAtIy 0x85),
    ([0xFD, 0xCB, 0x85, 0x37], .sllAtIyR 0x85 .a), ([0xFD, 0xCB, 0x85, 0x3E], .srlAtIy 0x85),
    ([0xFD, 0xCB, 0x85, 0x38], .srlAtIyR 0x85 .b), ([0xFD, 0xCB, 0x85, 0x46], .bitAtIy 0 0x85 6),
    ([0xFD, 0xCB, 0x85, 0x8E], .resAtIy 1 0x85), ([0xFD, 0xCB, 0x85, 0xA9], .resAtIyR 5 0x85 .c),
    ([0xFD, 0xCB, 0x85, 0xDE], .setAtIy 3 0x85), ([0xFD, 0xCB, 0x85, 0xE2], .setAtIyR 4 0x85 .d)] = true := by decide

theorem test_words_chain :
    decode [0xDD, 0xDD] = .ok .ddThenDd [0xDD] ∧
    decode [0xDD, 0xFD] = .ok .ddThenFd [0xFD] ∧
    decode [0xDD, 0xED] = .ok .ddThenEd [0xED] ∧
    decode [0xFD, 0xDD] = .ok .fdThenDd [0xDD] ∧
    decode [0xFD, 0xFD] = .ok .fdThenFd [0xFD] ∧
    decode [0xFD, 0xED] = .ok .fdThenEd [0xED] := by decide

/-- 30_encoding.md R105: 0xDD before 0xC5 (PUSH BC) and 0xFD before 0x3E (LD A,n). -/
theorem test_words_ignored :
    decode [0xDD, 0xC5] = .ok (.ddIgnored (.pushQ .bc)) [] ∧
    decode [0xFD, 0x3E, 0x12] = .ok (.fdIgnored (.ldRN .a 0x12)) [] := by decide

/-- 30_encoding.md R92: an instruction's bytes that end too soon are refused by name. -/
theorem test_truncated : decode [0x01, 0x34] = .error .truncated := by decide

/-- A word numbered as spec/opcode_table.json numbers it: LD BC,nn with nn = 0x1234. -/
theorem test_tableWord : decodeTableWord 24 0x123401 = some (.ldPNn .bc 0x1234) := by decide

/-- The next step after reset runs a placed instruction: LD B,n. -/
theorem test_withFetchWord :
    after (State.reset.withFetchWord 16 0x5A06) (fun s => s.regs.b == 0x5A && s.pc == 0x0002) = true := by decide

/-! ## Single steps -/

/-- 95_test_vectors.md V30.2. -/
theorem test_V30_2 :
    after (boot [0xFD, 0x76])
      (fun s => s.halted == true && refresh s == 2 && s.pc == 0x1002 && writesOf s == [] &&
        s.tTotal == 8) = true := by decide

/-- 95_test_vectors.md V30.3. -/
theorem test_V30_3 :
    after (boot [0xDD, 0xDD, 0x21, 0x34, 0x12])
      (fun s => s.regs.ix == 0x0000 && refresh s == 1 && s.pc == 0x1001 && writesOf s == [] &&
        s.tTotal == 4) = true := by decide

/-- 95_test_vectors.md V30.7. -/
theorem test_V30_7 :
    after (boot [0xDD, 0xCB, 0x05, 0x46] |> put 0x4005 0x01 |> regs (fun g => { g with ix := 0x4000 }))
      (fun s => s.flags.pack == 0x10 && refresh s == 2 && s.pc == 0x1004 && writesOf s == [] &&
        s.tTotal == 20) = true := by decide

/-- 95_test_vectors.md V30.8. -/
theorem test_V30_8 :
    after (boot [0xDD, 0x74, 0x00] |> regs (fun g => { g with ix := 0x4000 }) |> regs (fun g => { g with h := 0x12 }))
      (fun s => s.pc == 0x1003 && writesOf s == [(0x4000, 0x12)] && s.tTotal == 19) = true := by decide

/-- 95_test_vectors.md V20.1. -/
theorem test_V20_1 :
    after (boot [0x2A, 0xFF, 0xFF] |> put 0x0000 0xAB |> put 0xFFFF 0xCD)
      (fun s => s.regs.hl == 0xABCD && s.pc == 0x1003 && writesOf s == [] && s.tTotal == 16) = true := by decide

/-- 95_test_vectors.md V20.2. -/
theorem test_V20_2 :
    after (boot [0xED, 0x53, 0xFF, 0xFF] |> regs (·.setDe 0xBEEF))
      (fun s => s.pc == 0x1004 && writesOf s == [(0xFFFF, 0xEF), (0x0000, 0xBE)] &&
        s.tTotal == 20) = true := by decide

/-- 95_test_vectors.md V40.1. -/
theorem test_V40_1 :
    after (boot [0x41] |> regs (fun g => { g with c := 0x5A }))
      (fun s => s.regs.b == 0x5A && s.regs.c == 0x5A && s.flags.pack == 0x00 && refresh s == 1 &&
        s.pc == 0x1001 && writesOf s == [] && s.tTotal == 4) = true := by decide

/-- 95_test_vectors.md V40.2. -/
theorem test_V40_2 :
    after (boot [0xDD, 0x63] |> regs (fun g => { g with e := 0x77 }) |> regs (fun g => { g with ix := 0x1234 }))
      (fun s => s.regs.ix == 0x7734 && refresh s == 2 && s.pc == 0x1002 && writesOf s == [] &&
        s.tTotal == 8) = true := by decide

/-- 95_test_vectors.md V40.3. -/
theorem test_V40_3 :
    after (boot [0xDD, 0x66, 0xFE] |> put 0x2000 0xC3 |> regs (fun g => { g with ix := 0x2002 }))
      (fun s => s.regs.h == 0xC3 && s.regs.ix == 0x2002 && s.pc == 0x1003 && writesOf s == [] &&
        s.tTotal == 19) = true := by decide

/-- 95_test_vectors.md V40.5. -/
theorem test_V40_5 :
    after (boot [0xFD, 0x36, 0x7F, 0xAB] |> regs (fun g => { g with iy := 0x3000 }))
      (fun s => s.regs.iy == 0x3000 && s.pc == 0x1004 && writesOf s == [(0x307F, 0xAB)] &&
        s.tTotal == 19) = true := by decide

/-- 95_test_vectors.md V40.8. -/
theorem test_V40_8 :
    after (boot [0x3A, 0x34, 0x12] |> put 0x1234 0x5E)
      (fun s => s.regs.a == 0x5E && s.pc == 0x1003 && writesOf s == [] && s.tTotal == 13) = true := by decide

/-- 95_test_vectors.md V40.10. -/
theorem test_V40_10 :
    after (boot [0xED, 0x57] |> (fun s => { s with i := 0x80 }) |> (fun s => { s with iff2 := true }) |> flags 1)
      (fun s => s.regs.a == 0x80 && s.flags.pack == 0x85 && s.pc == 0x1002 && writesOf s == [] &&
        s.tTotal == 9) = true := by decide

/-- 95_test_vectors.md V40.12. -/
theorem test_V40_12 :
    after (boot [0xED, 0x5F] |> setRefresh 127 |> (fun s => { s with iff2 := false }))
      (fun s => s.regs.a == 0x01 && s.flags.pack == 0x00 && refresh s == 1 && s.pc == 0x1002 &&
        writesOf s == [] && s.tTotal == 9) = true := by decide

/-- 95_test_vectors.md V40.13. -/
theorem test_V40_13 :
    after (boot [0xED, 0x4F] |> regs (fun g => { g with a := 0xFF }) |> setRefresh 0)
      (fun s => refresh s == 255 && s.pc == 0x1002 && writesOf s == [] && s.tTotal == 9) = true := by decide

/-- 95_test_vectors.md V41.1. -/
theorem test_V41_1 :
    after (boot [0x01, 0x34, 0x12])
      (fun s => s.regs.bc == 0x1234 && s.pc == 0x1003 && writesOf s == [] && s.tTotal == 10) = true := by decide

/-- 95_test_vectors.md V41.4. -/
theorem test_V41_4 :
    after (boot [0xED, 0x7B, 0xFF, 0xFF] |> put 0x0000 0x11 |> put 0xFFFF 0x22)
      (fun s => s.regs.sp == 0x1122 && s.pc == 0x1004 && writesOf s == [] && s.tTotal == 20) = true := by decide

/-- 95_test_vectors.md V41.5. -/
theorem test_V41_5 :
    after (boot [0xDD, 0x22, 0x00, 0x60] |> regs (fun g => { g with ix := 0xBEEF }))
      (fun s => s.regs.ix == 0xBEEF && s.pc == 0x1004 && writesOf s == [(0x6000, 0xEF), (0x6001, 0xBE)] &&
        s.tTotal == 20) = true := by decide

/-- 95_test_vectors.md V41.7. -/
theorem test_V41_7 :
    after (boot [0xFD, 0xF9] |> regs (fun g => { g with iy := 0x8000 }))
      (fun s => s.regs.sp == 0x8000 && s.pc == 0x1002 && writesOf s == [] && s.tTotal == 10) = true := by decide

/-- 95_test_vectors.md V41.8. -/
theorem test_V41_8 :
    after (boot [0xF5] |> regs (fun g => { g with a := 0x12 }) |> flags 0xD7 |>
        regs (fun g => { g with sp := 0x8000 }))
      (fun s => s.regs.sp == 0x7FFE && s.pc == 0x1001 && writesOf s == [(0x7FFF, 0x12), (0x7FFE, 0xD7)] &&
        s.tTotal == 11) = true := by decide

/-- 95_test_vectors.md V41.11. -/
theorem test_V41_11 :
    after (boot [0xE1] |> put 0x0000 0x12 |> put 0xFFFF 0x34 |> regs (fun g => { g with sp := 0xFFFF }))
      (fun s => s.regs.hl == 0x1234 && s.regs.sp == 0x0001 && s.pc == 0x1001 && writesOf s == [] &&
        s.tTotal == 10) = true := by decide

/-- 95_test_vectors.md V42.1. -/
theorem test_V42_1 :
    after (boot [0xEB] |> regs (·.setDe 0x1111) |> regs (·.setHl 0x2222))
      (fun s => s.regs.de == 0x2222 && s.regs.hl == 0x1111 && s.pc == 0x1001 && writesOf s == [] &&
        s.tTotal == 4) = true := by decide

/-- 95_test_vectors.md V42.3. -/
theorem test_V42_3 :
    after (boot [0x08] |> regs (fun g => { g with a := 1 }) |> flags 2 |>
        regs (fun g => { g with aAlt := 3 }) |> regs (fun g => { g with fAlt := 4 }))
      (fun s => s.regs.a == 0x03 && s.flags.pack == 0x04 && s.regs.aAlt == 0x01 && s.regs.fAlt == 0x02 &&
        s.pc == 0x1001 && writesOf s == [] && s.tTotal == 4) = true := by decide

/-- 95_test_vectors.md V42.4. -/
theorem test_V42_4 :
    after (boot [0xD9] |> regs (·.setBc 0x0102) |> regs (fun g => { g with bAlt := 0xAA }) |>
        regs (fun g => { g with cAlt := 0xBB }) |> regs (fun g => { g with hAlt := 0xCC }))
      (fun s => s.regs.bc == 0xAABB && s.regs.hl == 0xCC00 && s.regs.bAlt == 0x01 && s.regs.cAlt == 0x02 &&
        s.pc == 0x1001 && writesOf s == [] && s.tTotal == 4) = true := by decide

/-- 95_test_vectors.md V42.5. -/
theorem test_V42_5 :
    after (boot [0xE3] |> put 0x8000 0x78 |> put 0x8001 0x56 |> regs (·.setHl 0x1234) |>
        regs (fun g => { g with sp := 0x8000 }))
      (fun s => s.regs.hl == 0x5678 && s.regs.sp == 0x8000 && s.pc == 0x1001 &&
        writesOf s == [(0x8001, 0x12), (0x8000, 0x34)] && s.tTotal == 19) = true := by decide

/-- 95_test_vectors.md V42.7. -/
theorem test_V42_7 :
    after (boot [0xED, 0xA0] |> put 0x4000 0x0A |> regs (fun g => { g with a := 0 }) |>
        regs (·.setHl 0x4000) |> regs (·.setDe 0x5000) |> regs (·.setBc 2))
      (fun s => s.regs.hl == 0x4001 && s.regs.de == 0x5001 && s.regs.bc == 0x0001 && s.flags.pack == 0x2C &&
        s.pc == 0x1002 && writesOf s == [(0x5000, 0x0A)] && s.tTotal == 16) = true := by decide

/-- 95_test_vectors.md V42.9. -/
theorem test_V42_9 :
    after (boot [0xED, 0xB0] |> put 0x4000 0x11 |> regs (·.setHl 0x4000) |> regs (·.setDe 0x5000) |> regs (·.setBc 2))
      (fun s => s.regs.hl == 0x4001 && s.regs.de == 0x5001 && s.regs.bc == 0x0001 && s.flags.pack == 0x04 &&
        refresh s == 2 && s.pc == 0x1000 && writesOf s == [(0x5000, 0x11)] && s.tTotal == 21) = true := by decide

/-- 95_test_vectors.md V42.10. -/
theorem test_V42_10 :
    after (boot [0xED, 0xB0] |> put 0x4000 0x11 |> regs (·.setHl 0x4000) |> regs (·.setDe 0x5000) |> regs (·.setBc 1))
      (fun s => s.regs.hl == 0x4001 && s.regs.de == 0x5001 && s.regs.bc == 0x0000 && s.flags.pack == 0x00 &&
        s.pc == 0x1002 && writesOf s == [(0x5000, 0x11)] && s.tTotal == 16) = true := by decide

/-- 95_test_vectors.md V42.13. -/
theorem test_V42_13 :
    after (boot [0xED, 0xA1] |> put 0x4000 0x3C |> regs (fun g => { g with a := 0x3C }) |>
        regs (·.setHl 0x4000) |> regs (·.setBc 5) |> flags 1)
      (fun s => s.regs.hl == 0x4001 && s.regs.bc == 0x0004 && s.flags.pack == 0x47 && s.pc == 0x1002 &&
        writesOf s == [] && s.tTotal == 16) = true := by decide

/-- 95_test_vectors.md V42.15. -/
theorem test_V42_15 :
    after (boot [0xED, 0xB1] |> put 0x4000 0x00 |> regs (fun g => { g with a := 0x55 }) |>
        regs (·.setHl 0x4000) |> regs (·.setBc 2))
      (fun s => s.regs.hl == 0x4001 && s.regs.bc == 0x0001 && s.flags.pack == 0x06 && s.pc == 0x1000 &&
        writesOf s == [] && s.tTotal == 21) = true := by decide

/-- 95_test_vectors.md V43.1. -/
theorem test_V43_1 :
    after (boot [0x80] |> regs (fun g => { g with a := 0x7F }) |> regs (fun g => { g with b := 1 }))
      (fun s => s.regs.a == 0x80 && s.flags.pack == 0x94 && s.pc == 0x1001 && writesOf s == [] &&
        s.tTotal == 4) = true := by decide

/-- 95_test_vectors.md V43.3. -/
theorem test_V43_3 :
    after (boot [0x8E] |> put 0x4000 0x01 |> regs (fun g => { g with a := 0x0E }) |> regs (·.setHl 0x4000) |> flags 1)
      (fun s => s.regs.a == 0x10 && s.flags.pack == 0x10 && s.pc == 0x1001 && writesOf s == [] &&
        s.tTotal == 7) = true := by decide

/-- 95_test_vectors.md V43.4. -/
theorem test_V43_4 :
    after (boot [0xDD, 0x86, 0xFF] |> put 0x4000 0x20 |> regs (fun g => { g with a := 0x10 }) |>
        regs (fun g => { g with ix := 0x4001 }))
      (fun s => s.regs.a == 0x30 && s.flags.pack == 0x20 && s.pc == 0x1003 && writesOf s == [] &&
        s.tTotal == 19) = true := by decide

/-- 95_test_vectors.md V43.5. -/
theorem test_V43_5 :
    after (boot [0xD6, 0x01] |> regs (fun g => { g with a := 0 }))
      (fun s => s.regs.a == 0xFF && s.flags.pack == 0xBB && s.pc == 0x1002 && writesOf s == [] &&
        s.tTotal == 7) = true := by decide

/-- 95_test_vectors.md V43.8. -/
theorem test_V43_8 :
    after (boot [0x98] |> regs (fun g => { g with a := 0x10 }) |> regs (fun g => { g with b := 0x0F }) |> flags 1)
      (fun s => s.regs.a == 0x00 && s.flags.pack == 0x52 && s.pc == 0x1001 && writesOf s == [] &&
        s.tTotal == 4) = true := by decide

/-- 95_test_vectors.md V43.9. -/
theorem test_V43_9 :
    after (boot [0xE6, 0x0F] |> regs (fun g => { g with a := 0x3C }))
      (fun s => s.regs.a == 0x0C && s.flags.pack == 0x1C && s.pc == 0x1002 && writesOf s == [] &&
        s.tTotal == 7) = true := by decide

/-- 95_test_vectors.md V43.10. -/
theorem test_V43_10 :
    after (boot [0xAF] |> regs (fun g => { g with a := 0x77 }) |> flags 0xFF)
      (fun s => s.regs.a == 0x00 && s.flags.pack == 0x44 && s.pc == 0x1001 && writesOf s == [] &&
        s.tTotal == 4) = true := by decide

/-- 95_test_vectors.md V43.11. -/
theorem test_V43_11 :
    after (boot [0xB1] |> regs (fun g => { g with a := 0x80 }) |> regs (fun g => { g with c := 0x28 }))
      (fun s => s.regs.a == 0xA8 && s.flags.pack == 0xA8 && s.pc == 0x1001 && writesOf s == [] &&
        s.tTotal == 4) = true := by decide

/-- 95_test_vectors.md V43.12. -/
theorem test_V43_12 :
    after (boot [0xFE, 0x28] |> regs (fun g => { g with a := 0x30 }))
      (fun s => s.regs.a == 0x30 && s.flags.pack == 0x3A && s.pc == 0x1002 && writesOf s == [] &&
        s.tTotal == 7) = true := by decide

/-- 95_test_vectors.md V43.15. -/
theorem test_V43_15 :
    after (boot [0x3C] |> regs (fun g => { g with a := 0x7F }) |> flags 1)
      (fun s => s.regs.a == 0x80 && s.flags.pack == 0x95 && s.pc == 0x1001 && writesOf s == [] &&
        s.tTotal == 4) = true := by decide

/-- 95_test_vectors.md V43.16. -/
theorem test_V43_16 :
    after (boot [0x34] |> put 0x4000 0xFF |> regs (·.setHl 0x4000) |> flags 0)
      (fun s => s.flags.pack == 0x50 && s.pc == 0x1001 && writesOf s == [(0x4000, 0x00)] &&
        s.tTotal == 11) = true := by decide

/-- 95_test_vectors.md V44.2. -/
theorem test_V44_2 :
    after (boot [0x27] |> regs (fun g => { g with a := 0x9A }) |> flags 0)
      (fun s => s.regs.a == 0x00 && s.flags.pack == 0x55 && s.pc == 0x1001 && writesOf s == [] &&
        s.tTotal == 4) = true := by decide

/-- 95_test_vectors.md V44.3. -/
theorem test_V44_3 :
    after (boot [0x27] |> regs (fun g => { g with a := 0x0F }) |> flags 0x12)
      (fun s => s.regs.a == 0x09 && s.flags.pack == 0x0E && s.pc == 0x1001 && writesOf s == [] &&
        s.tTotal == 4) = true := by decide

/-- 95_test_vectors.md V44.5. -/
theorem test_V44_5 :
    after (boot [0x2F] |> regs (fun g => { g with a := 0x5A }) |> flags 0)
      (fun s => s.regs.a == 0xA5 && s.flags.pack == 0x32 && s.pc == 0x1001 && writesOf s == [] &&
        s.tTotal == 4) = true := by decide

/-- 95_test_vectors.md V44.6. -/
theorem test_V44_6 :
    after (boot [0xED, 0x44] |> regs (fun g => { g with a := 0x80 }))
      (fun s => s.regs.a == 0x80 && s.flags.pack == 0x87 && s.pc == 0x1002 && writesOf s == [] &&
        s.tTotal == 8) = true := by decide

/-- 95_test_vectors.md V44.9. -/
theorem test_V44_9 :
    after (boot [0x3F] |> regs (fun g => { g with a := 0x28 }) |> flags 1)
      (fun s => s.flags.pack == 0x38 && s.pc == 0x1001 && writesOf s == [] && s.tTotal == 4) = true := by decide

/-- 95_test_vectors.md V44.10. -/
theorem test_V44_10 :
    after (boot [0x37] |> regs (fun g => { g with a := 0 }) |> flags 0xFE)
      (fun s => s.flags.pack == 0xC5 && s.pc == 0x1001 && writesOf s == [] && s.tTotal == 4) = true := by decide

/-- 95_test_vectors.md V44.12. -/
theorem test_V44_12 :
    after (boot [0x76])
      (fun s => s.halted == true && refresh s == 1 && s.pc == 0x1001 && writesOf s == [] &&
        s.tTotal == 4) = true := by decide

/-- 95_test_vectors.md V44.13. -/
theorem test_V44_13 :
    after (boot [0xF3] |> (fun s => { s with iff1 := true }) |> (fun s => { s with iff2 := true }))
      (fun s => s.iff1 == false && s.iff2 == false && s.pc == 0x1001 && writesOf s == [] &&
        s.tTotal == 4) = true := by decide

/-- 95_test_vectors.md V44.14. -/
theorem test_V44_14 :
    after (boot [0xFB])
      (fun s => s.iff1 == true && s.iff2 == true && s.pc == 0x1001 && writesOf s == [] &&
        s.tTotal == 4) = true := by decide

/-- 95_test_vectors.md V44.15. -/
theorem test_V44_15 :
    after (boot [0xED, 0x5E])
      (fun s => s.im == .im2 && s.pc == 0x1002 && writesOf s == [] && s.tTotal == 8) = true := by decide

/-- 95_test_vectors.md V44.18. -/
theorem test_V44_18 :
    after (boot [0xED, 0x00] |> regs (fun g => { g with a := 0x12 }) |> flags 0x34)
      (fun s => s.regs.a == 0x12 && s.flags.pack == 0x34 && refresh s == 2 && s.pc == 0x1002 &&
        writesOf s == [] && s.tTotal == 8) = true := by decide

/-- 95_test_vectors.md V45.2. -/
theorem test_V45_2 :
    after (boot [0x29] |> regs (·.setHl 0x8000))
      (fun s => s.regs.hl == 0x0000 && s.flags.pack == 0x01 && s.pc == 0x1001 && writesOf s == [] &&
        s.tTotal == 11) = true := by decide

/-- 95_test_vectors.md V45.5. -/
theorem test_V45_5 :
    after (boot [0xED, 0x4A] |> regs (·.setHl 0x7FFF) |> regs (·.setBc 1))
      (fun s => s.regs.hl == 0x8000 && s.flags.pack == 0x94 && s.pc == 0x1002 && writesOf s == [] &&
        s.tTotal == 15) = true := by decide

/-- 95_test_vectors.md V45.6. -/
theorem test_V45_6 :
    after (boot [0xED, 0x52] |> regs (·.setHl 0x1234) |> regs (·.setDe 0x1234))
      (fun s => s.regs.hl == 0x0000 && s.flags.pack == 0x42 && s.pc == 0x1002 && writesOf s == [] &&
        s.tTotal == 15) = true := by decide

/-- 95_test_vectors.md V45.9. -/
theorem test_V45_9 :
    after (boot [0x3B] |> regs (fun g => { g with sp := 0 }))
      (fun s => s.regs.sp == 0xFFFF && s.pc == 0x1001 && writesOf s == [] && s.tTotal == 6) = true := by decide

/-- 95_test_vectors.md V46.1. -/
theorem test_V46_1 :
    after (boot [0x07] |> regs (fun g => { g with a := 0x81 }) |> flags 0xC4)
      (fun s => s.regs.a == 0x03 && s.flags.pack == 0xC5 && s.pc == 0x1001 && writesOf s == [] &&
        s.tTotal == 4) = true := by decide

/-- 95_test_vectors.md V46.4. -/
theorem test_V46_4 :
    after (boot [0x1F] |> regs (fun g => { g with a := 0 }) |> flags 1)
      (fun s => s.regs.a == 0x80 && s.flags.pack == 0x00 && s.pc == 0x1001 && writesOf s == [] &&
        s.tTotal == 4) = true := by decide

/-- 95_test_vectors.md V46.6. -/
theorem test_V46_6 :
    after (boot [0xCB, 0x0E] |> put 0x4000 0x01 |> regs (·.setHl 0x4000))
      (fun s => s.flags.pack == 0x81 && s.pc == 0x1002 && writesOf s == [(0x4000, 0x80)] &&
        s.tTotal == 15) = true := by decide

/-- 95_test_vectors.md V46.8. -/
theorem test_V46_8 :
    after (boot [0xCB, 0x1A] |> regs (fun g => { g with d := 1 }) |> flags 0)
      (fun s => s.regs.d == 0x00 && s.flags.pack == 0x45 && s.pc == 0x1002 && writesOf s == [] &&
        s.tTotal == 8) = true := by decide

/-- 95_test_vectors.md V46.11. -/
theorem test_V46_11 :
    after (boot [0xCB, 0x35] |> regs (fun g => { g with l := 0x80 }))
      (fun s => s.regs.l == 0x01 && s.flags.pack == 0x01 && s.pc == 0x1002 && writesOf s == [] &&
        s.tTotal == 8) = true := by decide

/-- 95_test_vectors.md V46.13. -/
theorem test_V46_13 :
    after (boot [0xDD, 0xCB, 0x02, 0x00] |> put 0x4002 0x40 |> regs (fun g => { g with ix := 0x4000 }))
      (fun s => s.regs.b == 0x80 && s.flags.pack == 0x80 && refresh s == 2 && s.pc == 0x1004 &&
        writesOf s == [(0x4002, 0x80)] && s.tTotal == 23) = true := by decide

/-- 95_test_vectors.md V46.15. -/
theorem test_V46_15 :
    after (boot [0xED, 0x6F] |> put 0x4000 0x31 |> regs (fun g => { g with a := 0x7A }) |> regs (·.setHl 0x4000))
      (fun s => s.regs.a == 0x73 && s.flags.pack == 0x20 && s.pc == 0x1002 && writesOf s == [(0x4000, 0x1A)] &&
        s.tTotal == 18) = true := by decide

/-- 95_test_vectors.md V46.16. -/
theorem test_V46_16 :
    after (boot [0xED, 0x67] |> put 0x4000 0x20 |> regs (fun g => { g with a := 0x84 }) |> regs (·.setHl 0x4000))
      (fun s => s.regs.a == 0x80 && s.flags.pack == 0x80 && s.pc == 0x1002 && writesOf s == [(0x4000, 0x42)] &&
        s.tTotal == 18) = true := by decide

/-- 95_test_vectors.md V47.1. -/
theorem test_V47_1 :
    after (boot [0xCB, 0x7F] |> regs (fun g => { g with a := 0x80 }) |> flags 1)
      (fun s => s.flags.pack == 0x91 && s.pc == 0x1002 && writesOf s == [] && s.tTotal == 8) = true := by decide

/-- 95_test_vectors.md V47.4. -/
theorem test_V47_4 :
    after (boot [0xDD, 0xCB, 0x01, 0x6E] |> put 0x4001 0x00 |> regs (fun g => { g with ix := 0x4000 }))
      (fun s => s.flags.pack == 0x54 && s.pc == 0x1004 && writesOf s == [] && s.tTotal == 20) = true := by decide

/-- 95_test_vectors.md V47.5. -/
theorem test_V47_5 :
    after (boot [0xDD, 0xCB, 0x01, 0xDE] |> put 0x4001 0x00 |> regs (fun g => { g with ix := 0x4000 }))
      (fun s => s.flags.pack == 0x00 && s.pc == 0x1004 && writesOf s == [(0x4001, 0x08)] &&
        s.tTotal == 23) = true := by decide

/-- 95_test_vectors.md V47.6. -/
theorem test_V47_6 :
    after (boot [0xFD, 0xCB, 0x00, 0xC7] |> put 0x4000 0x10 |> regs (fun g => { g with iy := 0x4000 }) |>
        regs (fun g => { g with a := 0xFF }))
      (fun s => s.regs.a == 0x11 && s.pc == 0x1004 && writesOf s == [(0x4000, 0x11)] &&
        s.tTotal == 23) = true := by decide

/-- 95_test_vectors.md V47.7. -/
theorem test_V47_7 :
    after (boot [0xCB, 0xBC] |> regs (fun g => { g with h := 0xFF }) |> flags 0xFF)
      (fun s => s.regs.h == 0x7F && s.flags.pack == 0xFF && s.pc == 0x1002 && writesOf s == [] &&
        s.tTotal == 8) = true := by decide

/-- 95_test_vectors.md V48.3. -/
theorem test_V48_3 :
    after (boot [0xEA, 0x00, 0x20] |> flags 4)
      (fun s => s.pc == 0x2000 && writesOf s == [] && s.tTotal == 10) = true := by decide

/-- 95_test_vectors.md V48.8. -/
theorem test_V48_8 :
    after (boot [0x28, 0x80] |> flags 0x40)
      (fun s => s.pc == 0x0F82 && writesOf s == [] && s.tTotal == 12) = true := by decide

/-- 95_test_vectors.md V48.11. -/
theorem test_V48_11 :
    after (boot [0x10, 0xFE] |> regs (fun g => { g with b := 2 }) |> flags 0)
      (fun s => s.regs.b == 0x01 && s.flags.pack == 0x00 && s.pc == 0x1000 && writesOf s == [] &&
        s.tTotal == 13) = true := by decide

/-- 95_test_vectors.md V48.12. -/
theorem test_V48_12 :
    after (boot [0x10, 0xFE] |> regs (fun g => { g with b := 1 }))
      (fun s => s.regs.b == 0x00 && s.pc == 0x1002 && writesOf s == [] && s.tTotal == 8) = true := by decide

/-- 95_test_vectors.md V48.14. -/
theorem test_V48_14 :
    after (boot [0xCD, 0x00, 0x30] |> regs (fun g => { g with sp := 0x8000 }))
      (fun s => s.regs.sp == 0x7FFE && s.pc == 0x3000 && writesOf s == [(0x7FFF, 0x10), (0x7FFE, 0x03)] &&
        s.tTotal == 17) = true := by decide

/-- 95_test_vectors.md V48.17. -/
theorem test_V48_17 :
    after (boot [0xE0] |> put 0x8000 0x00 |> put 0x8001 0x20 |> regs (fun g => { g with sp := 0x8000 }) |> flags 0)
      (fun s => s.regs.sp == 0x8002 && s.pc == 0x2000 && writesOf s == [] && s.tTotal == 11) = true := by decide

/-- 95_test_vectors.md V48.19. -/
theorem test_V48_19 :
    after (boot [0xED, 0x4D] |> put 0x8000 0x00 |> put 0x8001 0x20 |>
        regs (fun g => { g with sp := 0x8000 }) |> (fun s => { s with iff1 := false }) |>
        (fun s => { s with iff2 := true }))
      (fun s => s.regs.sp == 0x8002 && s.iff1 == true && s.iff2 == true && s.pc == 0x2000 &&
        writesOf s == [] && s.tTotal == 14) = true := by decide

/-- 95_test_vectors.md V48.20. -/
theorem test_V48_20 :
    after (boot [0xED, 0x45] |> put 0x8000 0x00 |> put 0x8001 0x20 |>
        regs (fun g => { g with sp := 0x8000 }) |> (fun s => { s with iff1 := true }) |>
        (fun s => { s with iff2 := false }))
      (fun s => s.regs.sp == 0x8002 && s.iff1 == false && s.pc == 0x2000 && writesOf s == [] &&
        s.tTotal == 14) = true := by decide

/-- 95_test_vectors.md V48.21. -/
theorem test_V48_21 :
    after (boot [0xFF] |> regs (fun g => { g with sp := 0x8000 }))
      (fun s => s.regs.sp == 0x7FFE && s.pc == 0x0038 && writesOf s == [(0x7FFF, 0x10), (0x7FFE, 0x01)] &&
        s.tTotal == 11) = true := by decide

/-- 95_test_vectors.md V49.1. -/
theorem test_V49_1 :
    after (boot [0xDB, 0x10] |> regs (fun g => { g with a := 0x7F }) |> flags 0xFF |> port 0x10 0x5A)
      (fun s => s.regs.a == 0x5A && s.flags.pack == 0xFF && s.pc == 0x1002 &&
        iosOf s .ioRead == [(0x7F10, 90)] && writesOf s == [] && s.tTotal == 11) = true := by decide

/-- 95_test_vectors.md V49.2. -/
theorem test_V49_2 :
    after (boot [0xED, 0x40] |> regs (·.setBc 0x1234) |> flags 1 |> port 0x34 0)
      (fun s => s.regs.b == 0x00 && s.flags.pack == 0x45 && s.pc == 0x1002 &&
        iosOf s .ioRead == [(0x1234, 0)] && writesOf s == [] && s.tTotal == 12) = true := by decide

/-- 95_test_vectors.md V49.6. -/
theorem test_V49_6 :
    after (boot [0xED, 0x69] |> regs (·.setBc 0xAB20) |> regs (fun g => { g with l := 0x0F }) |> noports)
      (fun s => s.pc == 0x1002 && iosOf s .ioWrite == [(0xAB20, 0x0F)] && writesOf s == [] &&
        s.tTotal == 12) = true := by decide

/-- 95_test_vectors.md V49.8. -/
theorem test_V49_8 :
    after (boot [0xED, 0xA2] |> regs (·.setBc 0x0134) |> regs (·.setHl 0x4000) |> port 0x34 0x80)
      (fun s => s.regs.b == 0x00 && s.regs.hl == 0x4001 && s.flags.pack == 0x46 && s.pc == 0x1002 &&
        writesOf s == [(0x4000, 0x80)] && iosOf s .ioRead == [(0x0134, 128)] && s.tTotal == 16) = true := by decide

/-- 95_test_vectors.md V49.9. -/
theorem test_V49_9 :
    after (boot [0xED, 0xB2] |> regs (·.setBc 0x0234) |> regs (·.setHl 0x4000) |> port 0x34 1)
      (fun s => s.regs.b == 0x01 && s.regs.hl == 0x4001 && s.flags.pack == 0x00 && s.pc == 0x1000 &&
        writesOf s == [(0x4000, 0x01)] && iosOf s .ioRead == [(0x0234, 1)] && s.tTotal == 21) = true := by decide

/-- 95_test_vectors.md V49.12. -/
theorem test_V49_12 :
    after (boot [0xED, 0xB3] |> put 0x4000 0xAA |> regs (·.setBc 0x0320) |> regs (·.setHl 0x4000) |> noports)
      (fun s => s.regs.b == 0x02 && s.regs.hl == 0x4001 && s.flags.pack == 0x02 && s.pc == 0x1000 &&
        iosOf s .ioWrite == [(0x0220, 0xAA)] && writesOf s == [] && s.tTotal == 21) = true := by decide

/-! ## Interrupts -/

/-- A PIO whose port A requests with the vector `v`. -/
def requesting (v : Byte) (s : State) : State :=
  { s with
    pios := [{ Pio.afterReset with a := { Port.afterReset with ie := true, req := true, vector := v } }]
    iff1 := true
    iff2 := true }

/-- 95_test_vectors.md V60.1. -/
theorem test_V60_1 :
    after { boot [0x00, 0x00] with nmiPending := true, iff1 := true, iff2 := true }
      (fun s => s.pc == 0x0067 && s.iff1 == false && s.iff2 == true && s.regs.sp == 0xFFEE &&
        writesOf s == [(0xFFEF, 0x10), (0xFFEE, 0x00)] && refresh s == 2 && s.tTotal == 15) = true := by decide

/-- 95_test_vectors.md V60.5. -/
theorem test_V60_5 :
    after (requesting 0xFF (boot [0x00]))
      (fun s => s.pc == 0x0039 && writesOf s == [(0xFFEF, 0x10), (0xFFEE, 0x00)] && s.iff1 == false) = true := by
  decide

/-- 95_test_vectors.md V60.6. -/
theorem test_V60_6 : step (requesting 0xCD (boot [0x00])) = .refused .im0NotOneByte := by rfl

/-- 60_exceptions.md R409, by hand: mode 1 goes to 0x0038, 13 T-states and the NOP there. -/
theorem test_im1 :
    after { requesting 0x20 (boot [0x00]) with im := .im1 }
      (fun s => s.pc == 0x0039 && s.tTotal == 17 && s.iff2 == false &&
        (s.pios[0]?.map fun p => p.a.acc && !p.a.req) == some true) = true := by decide

/-- 60_exceptions.md R410, by hand: mode 2 with I = 0x40 and vector 0x20 reads the handler's address at 0x4020. -/
theorem test_im2 :
    after (put 0x4020 0x00 (put 0x4021 0x60 { requesting 0x20 (boot [0x00]) with im := .im2, i := 0x40 }))
      (fun s => s.pc == 0x6001 && s.tTotal == 23 && s.regs.sp == 0xFFEE) = true := by decide

/-- 95_test_vectors.md V60.9: the counter wraps. -/
theorem test_V60_9 :
    after { boot [0x00] with platform := { Platform.standard with tstatesWrap := 10 }, tTotal := 7 }
      (fun s => s.tTotal == 1) = true := by decide

/-- 60_exceptions.md R412, R413, by hand: a halted no-op with 3 queued wait states. -/
theorem test_halted :
    after { boot [0x3C] with halted := true, waitAcc := 3 }
      (fun s => s.pc == 0x1000 && s.tTotal == 7 && refresh s == 1 && s.regs.a == 0) = true := by decide

/-! ## The platform's parameters -/

/-- A platform (00_scope.md R5) whose table has rows of its own for INC r and DJNZ e and another count of the halted
no-op, whose acceptances take other counts, and that names IO_UNMAPPED. -/
def slow (s : State) : State :=
  { s with
    platform := { s.platform with
      tstates := {
        rows := [{ form := .incR .a, taken := 40, other := 0 }, { form := .djnz 0, taken := 31, other := 18 }]
        halted := 9 }
      ioUnmapped := some 0xFF
      accept := { nmi := 111, im0 := 20, im1 := 130, im2 := 190 } } }

/-- 70_reset_and_hazards.md R539, by hand: the rows count for their forms only (INC r, not DEC r), the second count
where DJNZ does not jump; the halted no-op; an NMI with the NOP of its handler. -/
theorem test_tstates :
    after (slow (boot [0x04])) (fun s => s.tTotal == 40) = true ∧
    after (slow (boot [0x05])) (fun s => s.tTotal == 4) = true ∧
    after (slow (boot [0x10, 0xFE])) (fun s => s.tTotal == 31) = true ∧
    after (slow (regs (fun g => { g with b := 1 }) (boot [0x10, 0xFE]))) (fun s => s.tTotal == 18) = true ∧
    after (slow { boot [] with halted := true }) (fun s => s.tTotal == 9) = true ∧
    after (slow { boot [] with nmiPending := true }) (fun s => s.tTotal == 115) = true := by decide

/-- 95_test_vectors.md's convention for IO_UNMAPPED: an unanswered port reads 0xFF; here IN A,(n). -/
theorem test_ioUnmapped :
    after (slow (boot [0xDB, 0x40])) (fun s => s.regs.a == 0xFF && s.draws == 0) = true := by decide

/-- A platform (20_memory.md R66) whose ports 0x40 are those of a device other than the CTC and the PIO. -/
def otherDevice (s : State) : State :=
  { s with
    platform := { s.platform with
      portMap := { mask := 0x00FF, value := 0x0040, target := .device } :: s.platform.portMap
      ioUnmapped := some 0xFF } }

/-- R66, by hand: a read of another device's port draws a value although IO_UNMAPPED names one, a write to it is an
access and no more. -/
theorem test_otherDevice :
    after (otherDevice (boot [0xDB, 0x40])) (fun s => s.draws == 1 && s.pios == [Pio.afterReset]) = true ∧
    after (otherDevice (boot [0xD3, 0x40])) (fun s =>
      s.draws == 0 && s.ctcs == [Ctc.afterReset] && s.pios == [Pio.afterReset] &&
        iosOf s .ioWrite == [(0x0040, 0x00)]) = true := by decide

/-! ## The host's script -/

/-- 60_exceptions.md R418, by hand: the first list alone acts, in its order, before the instruction (here INC A). -/
theorem test_inbox :
    after { boot [0x3C] with inbox := [[.writeReg8 .a 1, .writeReg8 .a 2], [.writeReg8 .a 7]] }
      (fun s => s.regs.a == 3 && s.inbox == [[.writeReg8 .a 7]]) = true := by decide

/-- R418, R422, by hand: the host's stop ends a run after the current iteration, whatever the launch chose; HALT ends
one whose launch chose (a). -/
theorem test_runEnded :
    after { boot [0x3C] with inbox := [[.stop]] } (fun s =>
      s.regs.a == 1 && runEnded .halted s && runEnded .exitPc s && runEnded .hostStop s) = true ∧
    after (boot [0x3C]) (fun s => !runEnded .halted s && !runEnded .exitPc s && !runEnded .hostStop s) = true ∧
    after (boot [0x76]) (fun s => runEnded .halted s && !runEnded .hostStop s) = true := by decide

/-! ## The chips -/

def ctcAfter (n : Chan) (bytes : List Byte) : Ctc := bytes.foldl (fun c v => c.write n v) Ctc.afterReset

def ctcTicks (t : Nat) (c : Ctc) : Option CtcRun := Ctc.tick .unwired t { chip := c, zeroCounts := [] }

/-- 95_test_vectors.md V61.1, up to its first zero count. -/
theorem test_V61_1 :
    ((ctcTicks 159 (ctcAfter .ch0 [0x85, 0x0A])).map fun r => (r.chip.ch0.counter, r.chip.ch0.req)) =
      some (1, false) ∧
    ((ctcTicks 160 (ctcAfter .ch0 [0x85, 0x0A])).map fun r => (r.chip.read .ch0, r.chip.ch0.req, r.zeroCounts)) =
      some (0x0A, true, [.ch0]) := by decide

/-- 95_test_vectors.md V61.5: the rising edge does nothing, the falling edge starts the channel. -/
theorem test_V61_5 :
    (Ctc.setLevel .unwired .ch0 true { chip := ctcAfter .ch0 [0x8D, 0x02], zeroCounts := [] }).map
        (fun r => (r.chip.ch0.armed, r.chip.ch0.running)) = some (true, false) ∧
    ((Ctc.setLevel .unwired .ch0 true { chip := ctcAfter .ch0 [0x8D, 0x02], zeroCounts := [] }).bind
        (Ctc.setLevel .unwired .ch0 false)).map
        (fun r => (r.chip.ch0.armed, r.chip.ch0.running, r.chip.ch0.counter)) = some (false, true, 2) := by decide

/-- 95_test_vectors.md V61.6: one T-state before the second zero count of channel 0, and at it. -/
theorem test_V61_6 :
    (Ctc.tick { Chain.unwired with from0 := some .ch1 } 64
        { chip := [0xD5, 0x02].foldl (fun c v => c.write .ch1 v) (ctcAfter .ch0 [0x05, 0x02]), zeroCounts := [] }).map
      (fun r => (r.zeroCounts.reverse, r.chip.ch1.req, r.chip.ch1.counter)) =
    some ([.ch0, .ch0, .ch1], true, 2) := by decide

/-- 95_test_vectors.md V62.1. -/
theorem test_V62_1 :
    let p := ([0x4F, 0x20, 0x83].foldl (fun p v => Pio.controlWrite p .a v) Pio.afterReset).putIn .a 0x5A
    p.a.req = true ∧ p.a.ready = false ∧ (p.dataRead .a).1 = 0x5A ∧ (p.dataRead .a).2.a.ready = true := by decide

/-- 95_test_vectors.md V62.3: a request on the edge into the condition, none while it stays true. -/
theorem test_V62_3 :
    let p := [0xCF, 0xFF, 0x97, 0xFC].foldl (fun p v => Pio.controlWrite p .a v) Pio.afterReset
    let p1 := p.putIn .a 0xFF
    let p2 := p1.putIn .a 0xFE
    let p3 := (p2.putIn .a 0xFC).setPort .a { (p2.putIn .a 0xFC).a with req := false }
    p1.a.req = false ∧ p2.a.req = true ∧ (p3.putIn .a 0xFD).a.req = false := by decide

/-- 95_test_vectors.md V62.6: port A's input side in mode 2 is port B's handshake. -/
theorem test_V62_6 :
    let p := [0x8F, 0x83].foldl (fun p v => Pio.controlWrite p .a v) (Pio.afterReset.controlWrite .b 0x83)
    let p1 := p.putIn .a 0x44
    p1.b.req = true ∧ p1.b.ready = false ∧ p1.a.req = false ∧
      ((p1.dataWrite .a 0x55).fetchOut .a).1 = 0x55 ∧ ((p1.dataWrite .a 0x55).fetchOut .a).2.a.req = true := by
  decide

/-! ## Witnesses: a state and operands that meet each statement's hypotheses -/

theorem witness_inv : State.reset.Inv where
  memory := rfl
  channels := by
    intro c hc
    have e : c = Ctc.afterReset := by simpa [State.reset] using hc
    subst e
    unfold Machine.Ctc.inRange Machine.Channel.inRange
    decide
  vecbases := by decide
  vectors := by decide
  counter := by decide

/-- The hypotheses of StepKeepsInvariant. -/
theorem witness_stepKeepsInvariant : ∃ s t, s.Inv ∧ step s = .next t :=
  ⟨State.reset, _, witness_inv, rfl⟩

/-- The hypothesis of MemoryAccess, StoreMemory8, Store16, PushAndPop, Exchanges, BlockLoad, IncDec8, RotateShift,
DigitRotate, BitSetReset, CallsAndReturns and BlockIo: canonical memory, here memory that lists something. -/
theorem witness_wf : (boot [0x77, 0x01]).mem.wf = true ∧ (boot [0x77, 0x01]).mem ≠ [] := by decide

/-- MemoryAccess: an address of a device range, and one of RAM beside it. -/
theorem witness_memKind :
    let pl := { Platform.standard with memMap := [{ first := 0x8000, last := 0x8FFF, kind := .device }] }
    memKind pl 0x8FFF = .device ∧ memKind pl 0x9000 = .ram := by decide

/-- DecodeOfEncode: a plain instruction, and a chain step with the prefix after it. -/
theorem witness_decodeOfEncode :
    (Instr.ldAtIxN 0x85 0x5A).wellFormed = true ∧ (Instr.ldAtIxN 0x85 0x5A).isPrefixRow = false ∧
    Instr.ddThenFd.wellFormed = true ∧ Instr.ddThenFd.isPrefixRow = false ∧ Instr.ddThenFd.lookahead = [0xFD] := by
  decide

theorem witness_encodeOfDecode : decode [0xED, 0xB0, 0x00] = .ok .ldir [0x00] := by decide

/-- FetchCounts: each value of the count of opcode bytes. -/
theorem witness_fetchCounts :
    Instr.nop.wellFormed = true ∧ encode .nop = [0x00] ∧ (Instr.bitR 7 .a).wellFormed = true ∧
    encode (.bitR 7 .a) = [0xCB, 0x7F] ∧ Instr.ddThenFd.wellFormed = true ∧ encode .ddThenFd = [0xDD] := by decide

/-- StepRunsInstruction: nothing accepted; after a prefix-chain step; an NMI accepted, whose handler's first
instruction is at 0x0066 (here on a halted CPU). -/
theorem witness_stepRunsInstruction :
    let s := boot [0x3C]
    s.inbox = [] ∧ interruptPhase { s with t := 0 } = (false, .next { s with t := 0 }) ∧ s.halted = false ∧
      decode (window s s.pc 4) = .ok (.incR .a) [0x00, 0x00, 0x00] ∧
      interruptPhase { s with t := 0, afterPrefix := true } = (false, .next { s with t := 0, afterPrefix := true }) ∧
      ∃ s1, interruptPhase { put 0x0066 0x3C s with t := 0, nmiPending := true, halted := true } =
          (true, .next s1) ∧
        decode (window s1 s1.pc 4) = .ok (.incR .a) [0x00, 0x00, 0x00] :=
  ⟨rfl, rfl, rfl, by decide, rfl, _, rfl, by decide⟩

/-- The PIO, the second source, is the one that the scan services: the CTC does nothing. -/
theorem services_requesting (v : Byte) (m : IntMode) :
    Services { requesting v (boot []) with im := m } (.pio 0) :=
  ⟨rfl, rfl, rfl, rfl, rfl, rfl, [.ctc 0], [], rfl, by
    intro x hx
    rw [List.mem_singleton.1 hx]
    exact ⟨rfl, rfl⟩⟩

/-- AcceptanceCondition: both sides hold of an NMI and of a source, neither after EI and after a prefix-chain step. -/
theorem witness_acceptanceCondition :
    (interruptPhase { boot [] with nmiPending := true }).1 = true ∧
    (interruptPhase (requesting 0xFF (boot []))).1 = true ∧ Services (requesting 0xFF (boot [])) (.pio 0) ∧
    (interruptPhase { requesting 0xFF (boot []) with eidi := true }).1 = false ∧
    (interruptPhase { requesting 0xFF (boot []) with afterPrefix := true }).1 = false :=
  ⟨rfl, rfl, services_requesting 0xFF .im0, rfl, rfl⟩

theorem witness_nmiAcceptance :
    let s := { boot [0x00] with nmiPending := true, halted := true }
    s.mem.wf = true ∧ s.afterPrefix = false ∧ s.nmiPending = true := by decide

/-- MaskableAcceptance: both modes. -/
theorem witness_maskableAcceptance :
    (requesting 0x20 (boot [])).mem.wf = true ∧
    ({ requesting 0x20 (boot []) with im := .im1 } : State).im ≠ .im0 ∧
    Services { requesting 0x20 (boot []) with im := .im1 } (.pio 0) ∧
    ({ requesting 0x20 (boot []) with im := .im2 } : State).im ≠ .im0 ∧
    Services { requesting 0x20 (boot []) with im := .im2 } (.pio 0) :=
  ⟨rfl, by decide, services_requesting 0x20 .im1, by decide, services_requesting 0x20 .im2⟩

/-- ModeZeroAcceptance: a source that is serviced in mode 0; RST 0x38 runs; CALL nn, HALT and 0xCB are refused. -/
theorem witness_modeZeroAcceptance :
    (requesting 0xFF (boot [])).im = .im0 ∧ Services (requesting 0xFF (boot [])) (.pio 0) ∧
    decode [0xFF] = .ok (.rst 7) [] ∧ (Instr.rst 7).isPrefixRow = false ∧ Instr.rst 7 ≠ .halt ∧
    decode [0xCD] = .error .truncated ∧ decode [0x76] = .ok .halt [] ∧ decode [0xCB] = .ok .prefixCb [] ∧
    Instr.prefixCb.isPrefixRow = true :=
  ⟨rfl, services_requesting 0xFF .im0, rfl, rfl, by decide, rfl, rfl, rfl, rfl⟩

theorem witness_eiShadow :
    (boot [0xFB]).afterPrefix = false ∧ (∃ t, exec .ei (boot [0xFB]) = .next t) ∧
    ∃ t, exec .di (boot [0xF3]) = .next t := ⟨rfl, ⟨_, rfl⟩, ⟨_, rfl⟩⟩

theorem witness_haltedNoOp :
    let s := { boot [0x3C] with halted := true, waitAcc := 3 }
    s.inbox = [] ∧ s.halted = true ∧ s.afterPrefix = false ∧ (interruptPhase s).1 = false ∧ s.platform.ctcChain = [] := by decide

/-- IterationTime: an iteration whose 4 T-states and 12 wait states bring channel 0 to its zero count, on a platform
of two chips; one T-state of a chip. -/
theorem witness_iterationTime :
    (∃ u, closeIteration { boot [] with
        t := 4, waitAcc := 12, ctcs := [Ctc.afterReset, ctcAfter .ch0 [0x85, 0x01]] } = .next u ∧
      u.trace = [.zeroCount 1 .ch0] ∧ (u.ctcs.map fun c => c.ch0.req) = [false, true]) ∧
    (∃ b, Ctc.tick .unwired 1 { chip := ctcAfter .ch0 [0x05, 0x01], zeroCounts := [] } = some b) ∧
    7 < 10 ∧ 4 < 10 := by
  exact ⟨⟨_, rfl, by decide, by decide⟩, ⟨_, rfl⟩, by decide, by decide⟩

theorem witness_stepCompletes :
    let s := { boot [0x00] with im := .im1 }
    s.inbox = [] ∧ s.platform.ctcChain = [] ∧ s.im ≠ .im0 := by decide

theorem witness_platformFixed : ∃ t, step State.reset = .next t := ⟨_, rfl⟩

/-- The statements on which instruction writes which register: an instruction that may and one that may not. -/
theorem witness_writers :
    Instr.exAfAf.isPrefixRow = false ∧ (∃ t, exec .exAfAf (boot []) = .next t) ∧
    Instr.ldIA.isPrefixRow = false ∧ (∃ t, exec .ldIA (boot []) = .next t) ∧
    (Instr.ldIxNn 0x1234).wellFormed = true ∧ (encode (.ldIxNn 0x1234)).head? = some 0xDD ∧
    (Instr.ldIyNn 0x1234).wellFormed = true ∧ (encode (.ldIyNn 0x1234)).head? = some 0xFD ∧
    ∃ t, exec (.ldIxNn 0x1234) (boot []) = .next t :=
  ⟨rfl, ⟨_, rfl⟩, rfl, ⟨_, rfl⟩, rfl, rfl, rfl, rfl, ⟨_, rfl⟩⟩

theorem witness_pushThenPop :
    let s := boot []
    s.mem.wf = true ∧ memKind s.platform (s.regs.sp - 1) = .ram ∧ memKind s.platform (s.regs.sp - 2) = .ram ∧
      ∃ t u, exec (.pushQ .af) s = .next t ∧ exec (.popQ .af) t = .next u :=
  ⟨rfl, rfl, rfl, _, _, rfl, rfl⟩

/-- DecimalArithmetic: 99 + 1 and 0 - 1, the boundary values. -/
theorem witness_decimalArithmetic :
    (regs (fun g => { g with a := 0x99 }) (boot [])).regs.a = packedDecimal 99 ∧
    (boot []).regs.a = packedDecimal 0 ∧ packedDecimal 1 = 0x01 ∧
    (∃ t u, exec (.adcN (packedDecimal 1)) (regs (fun g => { g with a := 0x99 }) (boot [])) = .next t ∧
      exec .daa t = .next u) ∧
    ∃ t u, exec (.sbcN (packedDecimal 1)) (boot []) = .next t ∧ exec .daa t = .next u :=
  ⟨rfl, rfl, rfl, ⟨_, _, rfl, rfl⟩, ⟨_, _, rfl, rfl⟩⟩

/-- DecimalAdjust: each of the four cases of the adjustment. -/
theorem witness_decimalAdjust :
    let case (v : Byte) (h c : Bool) : Bool × Bool := (h || decide (9 < v.toNat % 16), c || decide (0x99 < v.toNat))
    case 0xFF false false = (true, true) ∧ case 0x0A false false = (true, false) ∧
    case 0x00 false true = (false, true) ∧ case 0x99 false false = (false, false) := by decide

/-- Jumps, CallsAndReturns: every condition holds in one state and fails in another. -/
theorem witness_conditions :
    (∀ cc, Holds (Flags.unpack 0x00) cc ↔ (cc = .nz ∨ cc = .nc ∨ cc = .po ∨ cc = .p)) ∧
    (∀ cc, Holds (Flags.unpack 0xFF) cc ↔ (cc = .z ∨ cc = .c ∨ cc = .pe ∨ cc = .m)) ∧
    (∀ cc, JrHolds (Flags.unpack 0x00) cc ↔ (cc = .nz ∨ cc = .nc)) ∧
    (∀ cc, JrHolds (Flags.unpack 0xFF) cc ↔ (cc = .z ∨ cc = .c)) ∧
    (regs (fun g => { g with b := 1 }) (boot [])).regs.b = 1 ∧ (boot []).regs.b ≠ 1 := by
  refine ⟨?_, ?_, ?_, ?_, rfl, by decide⟩ <;> intro cc <;> cases cc <;> simp [Holds, JrHolds, Flags.unpack]

/-- A platform on which the PIO's port A and the CTC's channel 3 are in service; the PIO comes second. -/
def inService : State :=
  { boot [] with
    pios := [{ Pio.afterReset with a := { Port.afterReset with acc := true } }]
    ctcs := [{ Ctc.afterReset with ch3 := { Channel.powerOn with acc := true } }] }

/-- InterruptReturn: no source in service; the first source in service; the second one alone. -/
theorem witness_interruptReturn :
    (∀ id ∈ (boot []).platform.intSources, sourceAccepted (boot []) id = false) ∧
    (inService.platform.intSources = [] ++ .ctc 0 :: [.pio 0] ∧ sourceAccepted inService (.ctc 0) = true) ∧
    (let s := { inService with ctcs := [Ctc.afterReset] }
     s.platform.intSources = [.ctc 0] ++ .pio 0 :: [] ∧ sourceAccepted s (.pio 0) = true ∧
      ∀ x ∈ [SourceId.ctc 0], sourceAccepted s x = false) := by decide

/-- PortAccess: one port for each clause, another device's among them; a port that no rule names and a port of an absent chip, on a platform that
names IO_UNMAPPED and on one that does not. -/
theorem witness_portAccess :
    portTarget Platform.standard 0xAB03 = some (.ctc 0 .ch3) ∧ State.reset.ctcs[0]? = some Ctc.afterReset ∧
    portTarget Platform.standard 0x0011 = some (.pioData 0 .b) ∧
    portTarget Platform.standard 0x0012 = some (.pioControl 0 .a) ∧ State.reset.pios[0]? = some Pio.afterReset ∧
    portTarget Platform.standard 0x0004 = none ∧ answers State.reset 0x0004 = false ∧
    answers { State.reset with pios := [] } 0x0012 = false ∧ answers State.reset 0x0012 = true ∧
    State.reset.platform.ioUnmapped = none ∧ (slow State.reset).platform.ioUnmapped = some 0xFF ∧
    portTarget (otherDevice State.reset).platform 0xAB40 = some .device := by decide

/-- Prefixes: an ignored prefix, a chain step, and a prefix alone. -/
theorem witness_prefixes :
    (Instr.pushQ .bc).ignoresIndex = true ∧ Instr.prefixDdCb.isPrefixRow = true ∧
    Instr.prefixCb.isPrefixRow = true := by decide

/-- CtcRegisters: a time constant on a running, an armed and a stopped channel; a control word; a vector. -/
theorem witness_ctcRegisters :
    (ctcAfter .ch0 [0x05]).ch0.waitTC = true ∧
    (ctcAfter .ch0 [0x05]).ch0.running = false ∧ (ctcAfter .ch0 [0x05]).ch0.armed = false ∧
    (ctcAfter .ch0 [0x05, 0x02, 0x05]).ch0.waitTC = true ∧ (ctcAfter .ch0 [0x05, 0x02, 0x05]).ch0.running = true ∧
    (ctcAfter .ch0 [0x8D, 0x02, 0x8D]).ch0.waitTC = true ∧ (ctcAfter .ch0 [0x8D, 0x02, 0x8D]).ch0.armed = true ∧
    (ctcAfter .ch0 []).ch0.waitTC = false ∧ (0x85 : Byte).getLsbD 0 = true ∧ (0x48 : Byte).getLsbD 0 = false := by
  decide

/-- CtcTimerPeriod: both divisors, the time constants 1 and 256. -/
theorem witness_ctcTimerPeriod :
    (let x := (ctcAfter .ch0 [0x05, 0x01]).chan .ch0
     x.running = true ∧ x.counterMode = false ∧ x.counter = 1 ∧ x.reload = 1 ∧ x.pre = 16 ∧ x.div = .by16) ∧
    (let x := (ctcAfter .ch3 [0x25, 0x00]).chan .ch3
     x.running = true ∧ x.counterMode = false ∧ x.counter = 256 ∧ x.reload = 256 ∧ x.pre = 256 ∧
      x.div = .by256) := by decide

/-- CtcTrigger: an edge, no edge; an armed, a counting (counter 2 and 1) and a stopped channel. -/
theorem witness_ctcTrigger :
    (let x := (ctcAfter .ch0 [0xD5, 0x02]).ch0
     x.rising = true ∧ x.level = false ∧ x.armed = false ∧ x.running = true ∧ x.counterMode = true ∧
      x.counter = 2) ∧
    (ctcAfter .ch0 [0xD5, 0x01]).ch0.counter = 1 ∧ (ctcAfter .ch0 [0x8D, 0x02]).ch0.armed = true ∧
    (ctcAfter .ch0 []).ch0.running = false ∧ (ctcAfter .ch0 []).ch0.rising = false := by decide

/-- A chip whose channel 0, a timer with time constant 1 and one T-state to go, is chained to channel 1. -/
def chained (ch1 : List Byte) : CtcRun :=
  let c := ch1.foldl (fun c v => c.write .ch1 v) (ctcAfter .ch0 [0x85, 0x01])
  { chip := { c with ch0 := { c.ch0 with pre := 1 } }, zeroCounts := [] }

def chain01 : Chain := { Chain.unwired with from0 := some .ch1 }

/-- CtcTrigger, the chain: a chip in range and a chain that goes upward. -/
theorem witness_ctcChain :
    (chained [0xD5, 0x02]).chip.inRange ∧ Upward chain01 ∧ countsEdges (chained [0xD5, 0x02]).chip.ch1 ∧
    (let x := (chained [0xD5, 0x02]).chip.ch0
     x.running = true ∧ x.counterMode = false ∧ x.pre = 1) := by
  refine ⟨?_, ?_, ?_, by decide⟩
  · unfold Machine.Ctc.inRange Machine.Channel.inRange
    decide
  · intro n m h
    cases n <;> simp [chainTarget, chain01, Chain.unwired] at h
    subst h
    decide
  · unfold countsEdges
    decide

/-- CtcTrigger, the chain: each thing that a rollover can do to the chained channel. A counter-mode channel counts
(from 2, and from 1, where it rolls over in its turn), an armed one starts, a stopped one is not changed. -/
theorem witness_counted :
    (∃ b, Counted chain01 .ch0 (chained [0xD5, 0x02]) b ∧ b.chip.ch1.counter = 1 ∧ b.zeroCounts = [.ch0]) ∧
    (∃ b, Counted chain01 .ch0 (chained [0xD5, 0x01]) b ∧ b.chip.ch1.req = true ∧
      b.zeroCounts = [.ch1, .ch0]) ∧
    (∃ b, Counted chain01 .ch0 (chained [0x8D, 0x02]) b ∧ b.chip.ch1.running = true ∧
      b.chip.ch1.counter = 2) ∧
    (∃ b, Counted chain01 .ch0 (chained []) b ∧ b.chip.ch1 = .powerOn) := by
  refine ⟨⟨_, .counts _ .ch1 _ _ rfl rfl ⟨rfl, rfl, rfl⟩ (.down _ _ (by decide)), rfl, rfl⟩,
    ⟨_, .counts _ .ch1 _ _ rfl rfl ⟨rfl, rfl, rfl⟩ (.unchained _ _ rfl rfl), rfl, rfl⟩,
    ⟨_, .starts _ .ch1 _ rfl rfl rfl, rfl, rfl⟩,
    ⟨_, .ignored _ .ch1 _ rfl rfl rfl ?_, rfl⟩⟩
  rintro ⟨_, h, _⟩
  cases h

/-- 61_ctc.md R464, by hand: the model's T-state does to the chained channel what witness_counted says. -/
theorem test_chainedTick :
    ((Ctc.tickChan chain01 .ch0 (chained [0xD5, 0x02])).map fun r => (r.chip.ch1.counter, r.zeroCounts)) =
      some (1, [.ch0]) ∧
    ((Ctc.tickChan chain01 .ch0 (chained [0x8D, 0x02])).map fun r => (r.chip.ch1.running, r.chip.ch1.counter)) =
      some (true, 2) := by decide

/-- SourceService: a chip that requests, where a higher-numbered channel is in service; one that is in service; a
chip with nothing; the same of ports. -/
theorem witness_sourceService :
    (let c : Ctc := { Ctc.afterReset with
      ch1 := { Channel.powerOn with req := true, ie := true }, ch3 := { Channel.powerOn with acc := true } }
     c.hasRequest = true ∧ c.first = some .ch1) ∧
    (let c : Ctc := { Ctc.afterReset with
      ch0 := { Channel.powerOn with req := true }, ch2 := { Channel.powerOn with acc := true } }
     c.hasBeenAccepted = true ∧ (c.chan .ch2).acc = true ∧ c.first = some .ch2) ∧
    Ctc.afterReset.first = none ∧
    (let p : Pio := {
      a := { Port.afterReset with req := true, ie := true }, b := { Port.afterReset with acc := true } }
     p.hasRequest = true ∧ p.first = some .a) ∧
    (let p : Pio := { Pio.afterReset with b := { Port.afterReset with acc := true } }
     p.hasBeenAccepted = true ∧ p.first = some .b) := by
  decide

/-- The port after control bytes to port A. -/
def portAfter (bytes : List Byte) : Port := (bytes.foldl (fun p v => Pio.controlWrite p .a v) Pio.afterReset).a

/-- PioProtocol: each kind of control byte in the order of R493, by hand from R494 to R499. The byte 0x20 after a
mode 3 word and after an interrupt control word with bit 4 is a mask although its bit 0 is 0; 0xE7 and 0x0B; every
mode; a control byte that leaves a request. -/
theorem witness_pioProtocol :
    (portAfter [0x20]).vector = 0x20 ∧
    ((portAfter [0x0F]).mode = .byteOut ∧ (portAfter [0x4F]).mode = .byteIn ∧ (portAfter [0x8F]).mode = .byteBidir ∧
      (portAfter [0xCF]).mode = .bitMode) ∧
    ((portAfter [0xCF]).expect = .ioMask ∧ (portAfter [0xCF, 0x20]).io = 0x20 ∧
      (portAfter [0xCF, 0x20]).vector = 0x00 ∧ (portAfter [0xCF, 0x20]).expect = .nothing) ∧
    ((portAfter [0x97]).expect = .intMask ∧ (portAfter [0x97, 0x20]).mask = 0x20 ∧
      (portAfter [0x97, 0x20]).vector = 0x00) ∧
    ((portAfter [0xE7]).ie = true ∧ (portAfter [0xE7]).andMode = true ∧ (portAfter [0xE7]).activeHigh = true ∧
      (portAfter [0xE7]).expect = .nothing) ∧
    ((portAfter [0x83]).ie = true ∧ (portAfter [0x83, 0x03]).ie = false) ∧ portAfter [0x0B] = Port.afterReset ∧
    ((({ Pio.afterReset with a := { Port.afterReset with ie := true, req := true } } : Pio).controlWrite .a
      0x83).port .a).req = true := by decide

/-- PioProtocol, mode 3: the condition of R505 holds of some port, and not where every line is masked. -/
theorem witness_bitCondition :
    BitCondition { Port.afterReset with mode := .bitMode, mask := 0xFE, inp := 0x01, activeHigh := true } ∧
    ¬BitCondition { Port.afterReset with mode := .bitMode, inp := 0x01, activeHigh := true } := by
  constructor
  · exact ⟨rfl, ⟨0, by decide, rfl⟩, ⟨0, ⟨by decide, rfl⟩, rfl⟩⟩
  · rintro ⟨_, ⟨i, h8, h⟩, _⟩
    have all : ∀ j < 8, (0xFF : Byte).getLsbD j = true := by decide
    exact absurd (all i h8) (by simpa [Port.afterReset] using h)

/-- Channels 0 and 1 count each other's zero counts with time constant 1, which does not end (log 10). -/
def looped : State :=
  let s := boot []
  let c := [0xD5, 0x01].foldl (fun c v => c.write .ch1 v) (ctcAfter .ch0 [0xD5, 0x01])
  { s with
    ctcs := [c]
    platform := { s.platform with ctcChain := [{ chain01 with from1 := some .ch0 }] } }

/-- HostInteractions: an empty script; a script whose first list acts and one whose first list does not end; a stop
after which the step completes. -/
theorem witness_hostScript :
    (boot []).inbox = [] ∧
    HostDoes [.writeReg8 .a 1, .stop] (boot []) { regs (fun g => { g with a := 1 }) (boot []) with stop := true } ∧
    (¬∃ u, HostDoes [.ctcPulse 0 .ch0] looped u) ∧
    ∃ t, step { boot [] with inbox := [[.writeReg8 .a 1, .stop]] } = .next t := by
  refine ⟨rfl, .event _ _ _ _ _ rfl (.event _ _ _ _ _ rfl (.nothing _)), ?_, _, rfl⟩
  rintro ⟨u, h⟩
  cases h with
  | event _ _ _ t _ h _ =>
    have none_of : hostEvent (.ctcPulse 0 .ch0) looped = none := by decide
    rw [none_of] at h
    cases h

/-- HostInteractions: the two kinds of reset; a level change and a pulse that answer; a chip of each kind. -/
theorem witness_hostInteractions : (boot [0x00]).mem.wf = true ∧
    (∃ u, hostEvent (.reset true Regs.zero Flags.zero) (boot []) = some u) ∧
    (∃ u, hostEvent (.reset false Regs.zero Flags.zero) (boot []) = some u) ∧
    (boot []).ctcs[0]? = some Ctc.afterReset ∧ (boot []).pios[0]? = some Pio.afterReset ∧
    (∃ r, Ctc.setLevel (chainOf (boot []) 0) .ch3 true { chip := Ctc.afterReset, zeroCounts := [] } = some r) ∧
    ∃ r, Ctc.pulse (chainOf (boot []) 0) .ch3 { chip := Ctc.afterReset, zeroCounts := [] } = some r :=
  ⟨rfl, ⟨_, rfl⟩, ⟨_, rfl⟩, rfl, rfl, ⟨_, rfl⟩, ⟨_, rfl⟩⟩

/-- RegisterFile: a register code of index context that names no half, and one that does. -/
theorem witness_registerFile : plainReg .a = some .a ∧ plainReg .xh = none := by decide

/-- 60_exceptions.md R418, by hand: the accessor writes F and R as bytes. -/
theorem test_accessor :
    ((hostEvent (.writeReg8 .f 0x41) (boot [])).map fun s => (s.flags.zf, s.flags.cf, s.flags.sf)) =
      some (true, true, false) ∧
    ((hostEvent (.writeReg8 .r 0x85) (boot [])).map fun s => (s.rlo7, s.rbit7)) = some (5, true) := by decide

end Sys2Proof.Tests
end

/-! SUPPORT. No step writes the platform (spec/00_scope.md R5): one `@[simp]` lemma for each operation that a meaning
is made of, then the meanings, the interrupt phase, the host's interactions and the iteration. -/

namespace Sys2Proof.Machine

section

variable (s : State)

/-! ## The shared operations -/

@[simp] theorem readWord_platform (k : WordAccess) (a : Word) : (readWord k a s).2.platform = s.platform := rfl

@[simp] theorem writeWord_platform (k : WordAccess) (a v : Word) : (writeWord k a v s).platform = s.platform :=
  (congrArg State.platform (writeWord_state k a v s) :)

@[simp] theorem push16_platform (v : Word) : (push16 v s).platform = s.platform :=
  (congrArg State.platform (push16_state v s) :)

@[simp] theorem pop16_platform : (pop16 s).2.platform = s.platform := rfl

@[simp] theorem fetchM1s_platform (n : Nat) : (fetchM1s n s).platform = s.platform := by
  obtain ⟨_, _, h⟩ := fetchM1s_spec n s
  rw [h]

@[simp] theorem fetchOperands_platform (n : Nat) : (fetchOperands n s).platform = s.platform := by
  obtain ⟨_, _, h⟩ := fetchOperands_spec n s
  rw [h]

@[simp] theorem fetchCode_platform (done : Nat) (c : Code) : (fetchCode done c s).platform = s.platform := by
  unfold fetchCode
  split <;> simp

@[simp] theorem ioRead_platform (p : Word) : (ioRead p s).2.platform = s.platform :=
  (congrArg State.platform (portRead_state p s) :)

@[simp] theorem ioWrite_platform (p : Word) (v : Byte) : (ioWrite p v s).platform = s.platform :=
  (congrArg State.platform (portWrite_state p v s) :)

@[simp] theorem finishService_platform : (finishService s).platform = s.platform :=
  (congrArg State.platform (finishService_state s) :)

@[simp] theorem returnFromCall_platform : (returnFromCall s).platform = s.platform := rfl

@[simp] theorem returnFromInterrupt_platform : (returnFromInterrupt s).platform = s.platform := rfl

/-! ## The operations of the instruction families -/

@[simp] theorem setStackPair_platform (q : StackPair) (v : Word) : (s.setStackPair q v).platform = s.platform := by
  cases q <;> rfl

@[simp] theorem addIndex_platform (x : Index) (p : XPair) : (addIndex x p s).platform = s.platform := rfl

@[simp] theorem toHl_platform (r : Word × Flags) : (toHl r s).platform = s.platform := rfl

@[simp] theorem addA_platform (v : Byte) : (addA v s).platform = s.platform := rfl
@[simp] theorem adcA_platform (v : Byte) : (adcA v s).platform = s.platform := rfl
@[simp] theorem subA_platform (v : Byte) : (subA v s).platform = s.platform := rfl
@[simp] theorem sbcA_platform (v : Byte) : (sbcA v s).platform = s.platform := rfl
@[simp] theorem andA_platform (v : Byte) : (andA v s).platform = s.platform := rfl
@[simp] theorem xorA_platform (v : Byte) : (xorA v s).platform = s.platform := rfl
@[simp] theorem orA_platform (v : Byte) : (orA v s).platform = s.platform := rfl
@[simp] theorem cpA_platform (v : Byte) : (cpA v s).platform = s.platform := rfl

@[simp] theorem stepReg_platform (op : Byte → Flags → Byte × Flags) (r : Reg8) :
    (stepReg op r s).platform = s.platform := rfl

@[simp] theorem stepHalf_platform (op : Byte → Flags → Byte × Flags) (x : Index) (h : Half) :
    (stepHalf op x h s).platform = s.platform := rfl

@[simp] theorem stepMem_platform (op : Byte → Flags → Byte × Flags) (a : Word) :
    (stepMem op a s).platform = s.platform := memWrite_platform _ a _

@[simp] theorem testMem_platform (b : BitVec 3) (a : Word) : (testMem b a s).platform = s.platform := rfl

@[simp] theorem changeReg_platform (f : Byte → Byte) (r : Reg8) : (changeReg f r s).platform = s.platform := rfl

@[simp] theorem changeMem_platform (f : Byte → Byte) (a : Word) : (changeMem f a s).2.platform = s.platform :=
  memWrite_platform _ a _

@[simp] theorem changeAtHl_platform (f : Byte → Byte) : (changeAtHl f s).platform = s.platform :=
  changeMem_platform s f _

@[simp] theorem changeIndexed_platform (f : Byte → Byte) (x : Index) (d : Byte) :
    (changeIndexed f x d s).platform = s.platform := changeMem_platform s f _

@[simp] theorem changeIndexedCopy_platform (f : Byte → Byte) (x : Index) (d : Byte) (r : Reg8) :
    (changeIndexedCopy f x d r s).platform = s.platform := changeMem_platform s f _

@[simp] theorem repeatIf_platform (taken other : Nat) (again : Bool) :
    (repeatIf taken other again s).platform = s.platform := by
  cases again <;> rfl

@[simp] theorem ldBlock_platform (step : Word) : (ldBlock step s).platform = s.platform := by
  simp [ldBlock]

@[simp] theorem cpBlock_platform (step : Word) : (cpBlock step s).platform = s.platform := rfl

@[simp] theorem exchangeTop_platform (v : Word) : (exchangeTop v s).2.platform = s.platform := by
  simp [exchangeTop]

@[simp] theorem exchangeIndex_platform (x : Index) : (exchangeIndex x s).platform = s.platform := by
  simp [exchangeIndex]

@[simp] theorem inBlock_platform (step : Word) : (inBlock step s).platform = s.platform := by
  simp [inBlock]

@[simp] theorem outBlock_platform (step : Word) : (outBlock step s).platform = s.platform := by
  simp [outBlock]

@[simp] theorem jumpRelative_platform (e : Byte) : (jumpRelative e s).platform = s.platform := rfl

@[simp] theorem callTo_platform (a : Word) : (callTo a s).platform = s.platform := by
  simp [callTo]

@[simp] theorem loadPair_platform (p : Pair) (nn : Word) : (loadPair p nn s).platform = s.platform := rfl

@[simp] theorem loadIndex_platform (x : Index) (nn : Word) : (loadIndex x nn s).platform = s.platform := rfl

@[simp] theorem popIndex_platform (x : Index) : (popIndex x s).platform = s.platform := by
  simp [popIndex]

@[simp] theorem loadX8_platform (x : Index) (r r2 : XReg8) : (loadX8 x r r2 s).platform = s.platform := rfl

@[simp] theorem loadHalf_platform (x : Index) (h : Half) (n : Byte) : (loadHalf x h n s).platform = s.platform := rfl

@[simp] theorem loadFrom_platform (a : Word) (r : Reg8) : (loadFrom a r s).platform = s.platform := rfl

@[simp] theorem loadAFrom_platform (a : Word) : (loadAFrom a s).platform = s.platform := rfl

@[simp] theorem loadSpecial_platform (v : Byte) : (loadSpecial v s).platform = s.platform := rfl

@[simp] theorem setRefresh_platform (v : Byte) : (setRefresh v s).platform = s.platform := rfl

@[simp] theorem rotateA_platform (op : RotOp) : (rotateA op s).platform = s.platform := rfl

@[simp] theorem rotateReg_platform (op : RotOp) (r : Reg8) : (rotateReg op r s).platform = s.platform := rfl

@[simp] theorem rotateMem_platform (op : RotOp) (a : Word) : (rotateMem op a s).2.platform = s.platform :=
  memWrite_platform _ a _

@[simp] theorem rotateAtHl_platform (op : RotOp) : (rotateAtHl op s).platform = s.platform :=
  rotateMem_platform s op _

@[simp] theorem rotateIndexed_platform (op : RotOp) (x : Index) (d : Byte) :
    (rotateIndexed op x d s).platform = s.platform := rotateMem_platform s op _

@[simp] theorem rotateIndexedCopy_platform (op : RotOp) (x : Index) (d : Byte) (r : Reg8) :
    (rotateIndexedCopy op x d r s).platform = s.platform := rotateMem_platform s op _

@[simp] theorem digitResult_platform (v : Byte) : (digitResult v s).platform = s.platform := rfl

@[simp] theorem chainStep_platform : (chainStep s).platform = s.platform := rfl

end

section

variable {s t : State}

/-! ## The meanings

A meaning answers `.next` of the operations above, so the equation in `h` says what `t` is. The proof terms of `simp` are
explicit (`-implicitDefEqProofs`) and NEG is taken apart by `injection`: comparing the states by unfolding them would
count down the moduli of `sub8` and `sbc16`. -/

theorem execBaseRow_platform {i : Instr} (h : execBaseRow i s = .next t) : t.platform = s.platform := by
  cases i <;> cases h <;> simp -implicitDefEqProofs [onReg, onImm, onAtHl, onMem, apply_ite State.platform]

theorem execDdIgnored_platform {base : Instr} (h : execDdIgnored base s = .next t) : t.platform = s.platform :=
  execBaseRow_platform (s := charge _ s) h

theorem execFdIgnored_platform {base : Instr} (h : execFdIgnored base s = .next t) : t.platform = s.platform :=
  execBaseRow_platform (s := charge _ s) h

theorem execRow_platform {i : Instr} (h : execRow i s = .next t) : t.platform = s.platform := by
  cases i with
  | ddIgnored base => exact execDdIgnored_platform h
  | fdIgnored base => exact execFdIgnored_platform h
  | neg x =>
    injection h with h
    rw [← h]
    simp
  | _ =>
    cases h <;>
      simp -implicitDefEqProofs [onReg, onImm, onHalf, onAtHl, onIndexed, onMem, apply_ite State.platform]

theorem continueDecode_platform {pfx : List Byte} (h : continueDecode pfx s = .next t) :
    t.platform = s.platform := by
  unfold continueDecode at h
  split at h
  · exact (execRow_platform h).trans (fetchCode_platform ..)
  · cases h

/-- The first bytes of a page go on decoding (30_encoding.md R111); every other row has its meaning in `execRow`. -/
theorem exec_eq_execRow_or_continueDecode (i : Instr) (s : State) :
    exec i s = execRow i s ∨ ∃ pfx, exec i s = continueDecode pfx s := by
  cases i with
  | prefixCb | prefixDd | prefixEd | prefixFd | prefixDdCb | prefixFdCb => exact .inr ⟨_, rfl⟩
  | _ => exact .inl rfl

theorem exec_platform {i : Instr} (h : exec i s = .next t) : t.platform = s.platform := by
  obtain e | ⟨_, e⟩ := exec_eq_execRow_or_continueDecode i s
  · exact execRow_platform (e ▸ h)
  · exact continueDecode_platform (e ▸ h)

theorem executeInstruction_platform (h : executeInstruction s = .next t) : t.platform = s.platform := by
  unfold executeInstruction at h
  split at h
  · exact (exec_platform h).trans (fetchCode_platform ..)
  · cases h

theorem executePhase_platform {accepted : Bool} (h : executePhase accepted s = .next t) :
    t.platform = s.platform := by
  unfold executePhase at h
  split at h
  · cases h; rfl
  · exact (executeInstruction_platform h :)

/-! ## Taking an interrupt -/

theorem enterHandler_platform {target : State → Word × State} (ht : ∀ u, (target u).2.platform = u.platform)
    (cost : Nat) (s : State) : (enterHandler target cost s).platform = s.platform :=
  (ht _).trans (push16_platform s s.pc)

theorem acceptNmi_platform (s : State) : (acceptNmi s).platform = s.platform :=
  enterHandler_platform (fun _ => rfl) _ _

theorem acceptIm1_platform (s : State) : (acceptIm1 s).platform = s.platform :=
  enterHandler_platform (fun _ => rfl) _ _

theorem acceptIm2_platform (v : Byte) (s : State) : (acceptIm2 v s).platform = s.platform :=
  enterHandler_platform (fun _ => rfl) _ _

theorem acceptSource_platform (id : SourceId) (s : State) : (acceptSource id s).2.platform = s.platform :=
  (congrArg State.platform (sourceAccept_state id _) :)

theorem acceptIm0_platform {v : Byte} (h : acceptIm0 v s = .next t) : t.platform = s.platform := by
  unfold acceptIm0 at h
  split at h
  · exact (execBaseRow_platform h :)
  · cases h

theorem acceptInt_platform {id : SourceId} (h : acceptInt id s = .next t) : t.platform = s.platform := by
  refine Eq.trans ?_ (acceptSource_platform id s)
  unfold acceptInt at h
  dsimp only at h
  split at h
  · exact acceptIm0_platform h
  · cases h; exact acceptIm1_platform _
  · cases h; exact acceptIm2_platform _ _

theorem interruptPhase_platform (h : (interruptPhase s).2 = .next t) : t.platform = s.platform := by
  unfold interruptPhase at h
  split at h
  · cases h; rfl
  · dsimp only at h
    split at h
    · cases h; exact acceptNmi_platform _
    · split at h
      · cases h; rfl
      · split at h
        · split at h
          · exact (acceptInt_platform h :)
          · cases h; rfl
        · cases h; rfl

/-! ## The iteration and the host's interactions -/

theorem closeIteration_platform (h : closeIteration s = .next t) : t.platform = s.platform := by
  unfold closeIteration at h
  dsimp only at h
  split at h
  next u hu =>
    cases h
    exact (congrArg State.platform (tickChips_state hu).1 :)
  · cases h

theorem iteration_platform (h : iteration s = .next t) : t.platform = s.platform := by
  obtain ⟨u, hu, h⟩ := andThen_next.1 h
  obtain ⟨v, hv, h⟩ := andThen_next.1 h
  calc t.platform = v.platform := closeIteration_platform h
    _ = u.platform := executePhase_platform hv
    _ = s.platform := (interruptPhase_platform hu :)

theorem hostWrite8_platform (reg : NamedReg8) (v : Byte) (s : State) :
    (hostWrite8 reg v s).platform = s.platform := by
  cases reg <;> rfl

theorem hostWrite16_platform (reg : NamedReg16) (v : Word) (s : State) :
    (hostWrite16 reg v s).platform = s.platform := by
  cases reg <;> rfl

theorem hostWriteFlag_platform (f : NamedFlag) (v : Bool) (s : State) :
    (hostWriteFlag f v s).platform = s.platform := by
  cases f <;> rfl

theorem hostPutIn_platform (k : Nat) (x : PortId) (v : Byte) (s : State) :
    (hostPutIn k x v s).platform = s.platform := by
  unfold hostPutIn
  split <;> rfl

theorem hostFetchOut_platform (k : Nat) (x : PortId) (s : State) :
    (hostFetchOut k x s).platform = s.platform := by
  unfold hostFetchOut
  split <;> rfl

theorem ctcOp_platform {k : Nat} {op : Chain → CtcRun → Option CtcRun} (h : ctcOp k op s = some t) :
    t.platform = s.platform :=
  (congrArg State.platform (ctcOp_state h).1 :)

theorem hostEvent_platform {e : HostEvent} (h : hostEvent e s = some t) : t.platform = s.platform := by
  cases e with
  | ctcLevel k n l => exact ctcOp_platform (op := fun w x => Ctc.setLevel w n l x) h
  | ctcPulse k n => exact ctcOp_platform (op := fun w x => Ctc.pulse w n x) h
  | pioPutIn => cases h; exact hostPutIn_platform ..
  | pioFetchOut => cases h; exact hostFetchOut_platform ..
  | writeReg8 => cases h; exact hostWrite8_platform ..
  | writeReg16 => cases h; exact hostWrite16_platform ..
  | writeFlag => cases h; exact hostWriteFlag_platform ..
  | fireNmi | addWait | writeIm | writeMem | reset | stop => cases h; rfl

theorem hostEvents_platform {es : List HostEvent} (h : hostEvents es s = some t) : t.platform = s.platform := by
  induction es generalizing s with
  | nil => cases h; rfl
  | cons e es ih =>
    obtain ⟨u, hu, h⟩ := Option.bind_eq_some_iff.1 h
    exact (ih h).trans (hostEvent_platform hu)

theorem hostPhase_platform (h : hostPhase s = some t) : t.platform = s.platform := by
  unfold hostPhase at h
  split at h
  · cases h; rfl
  · exact (hostEvents_platform h :)

end

/-- Settles O20: neither the host's interactions at the boundary nor the iteration after them write the platform. -/
theorem platformFixed : Obligations.PlatformFixed := by
  intro s t h
  unfold step hostThenIteration at h
  split at h
  next u hu => exact (iteration_platform h).trans (hostPhase_platform hu)
  · cases h

end Sys2Proof.Machine

/-! SUPPORT. The reset state and the register file (spec/10_state.md R22, R24, R32, R33, R45). -/

namespace Sys2Proof.Machine

open Sys2Proof.Claim

/-- Settles O1: State.reset, field by field; its table of T-states has no row, so every count is the default. -/
theorem resetState : Obligations.ResetState := by
  have hcost : ∀ i n, State.reset.cost i n = n ∧ State.reset.costNot i n = n := cost_default rfl
  refine ⟨rfl, rfl, rfl, rfl, rfl, rfl, rfl, rfl, rfl, rfl, rfl, rfl, rfl, rfl, rfl, hcost, rfl, fun c hc => ?_,
    fun p hp => ?_⟩
  · rw [List.mem_singleton.1 hc]
    exact ⟨rfl, fun n => by cases n <;> exact ⟨rfl, rfl, rfl, rfl, rfl, rfl⟩⟩
  · rw [List.mem_singleton.1 hp]
    intro x
    cases x <;> exact ⟨rfl, rfl, rfl, rfl, rfl, rfl⟩

section

variable (g : Regs)

theorem get8_set8 (r q : Reg8) (v : Byte) : (g.set8 r v).get8 q = if q = r then v else g.get8 q := by
  cases r <;> cases q <;> rfl

theorem set8_restore (r : Reg8) (v : Byte) :
    { g.set8 r v with a := g.a, b := g.b, c := g.c, d := g.d, e := g.e, h := g.h, l := g.l } = g := by
  cases r <;> rfl

theorem getPair_setPair (p q : Pair) (v : Word) :
    (g.setPair p v).getPair q = if q = p then v else g.getPair q := by
  cases p <;> cases q <;>
    simp [Regs.setPair, Regs.getPair, Regs.setBc, Regs.bc, Regs.setDe, Regs.de, Regs.setHl, Regs.hl]

theorem setPair_restore (p : Pair) (v : Word) :
    { g.setPair p v with b := g.b, c := g.c, d := g.d, e := g.e, h := g.h, l := g.l, sp := g.sp } = g := by
  cases p <;> rfl

theorem getIndex_setIndex (x y : Index) (v : Word) :
    (g.setIndex x v).getIndex y = if y = x then v else g.getIndex y := by
  cases x <;> cases y <;> rfl

theorem setIndex_restore (x : Index) (v : Word) : { g.setIndex x v with ix := g.ix, iy := g.iy } = g := by
  cases x <;> rfl

theorem halfOf_withHalf (w : Word) (h k : Half) (v : Byte) :
    halfOf (withHalf w h v) k = if k = h then v else halfOf w k := by
  cases h <;> cases k <;> simp [halfOf, withHalf]

theorem getHalf_setHalf (x y : Index) (h k : Half) (v : Byte) :
    (g.setHalf x h v).getHalf y k = if y = x ∧ k = h then v else g.getHalf y k := by
  unfold Regs.setHalf Regs.getHalf
  rw [getIndex_setIndex]
  by_cases hx : y = x
  · simp [hx, halfOf_withHalf]
  · simp [hx]

/-- An index register is its high half times 256 and its low half (R24). -/
theorem getIndex_toNat (x : Index) :
    (g.getIndex x).toNat = (g.getHalf x .hi).toNat * 256 + (g.getHalf x .lo).toNat := by
  rw [← mkWord_toNat]
  exact congrArg BitVec.toNat (mkWord_hi_lo _).symm

/-- In index context a code that names no half names its register of the main set (R103). -/
theorem getX8_setX8_plain {k : XReg8} {r : Reg8} (h : plainReg k = some r) (x : Index) (v : Byte) :
    g.getX8 x k = g.get8 r ∧ g.setX8 x k v = g.set8 r v := by
  cases k <;> cases h <;> exact ⟨rfl, rfl⟩

end

theorem unpack_pack (f : Flags) : Flags.unpack f.pack = f := by
  obtain ⟨h7, h6, h5, h4, h3, h2, h1, h0⟩ := pack_bits f
  rw [Flags.unpack, h7, h6, h5, h4, h3, h2, h1, h0]

theorem pack_toNat (f : Flags) :
    f.pack.toNat = 128 * f.sf.toNat + 64 * f.zf.toNat + 32 * f.yf.toNat + 16 * f.hf.toNat +
      8 * f.xf.toNat + 4 * f.pf.toNat + 2 * f.nf.toNat + f.cf.toNat := by
  obtain ⟨sf, zf, yf, hf, xf, pf, nf, cf⟩ := f
  revert sf zf yf hf xf pf nf cf
  decide

theorem pack_unpack (v : Byte) : (Flags.unpack v).pack = v := by
  obtain ⟨h7, h6, h5, h4, h3, h2, h1, h0⟩ := pack_bits (Flags.unpack v)
  apply BitVec.eq_of_getLsbD_eq
  intro k hk
  interval_cases k <;> assumption

/-- The index address modulo 2^16, the displacement a signed byte (R101). -/
theorem indexed_toNat (g : Regs) (x : Index) (d : Byte) :
    ((g.indexed x d).toNat : Int) = ((g.getIndex x).toNat + d.toInt) % 65536 := by
  have hd : (sext16 d).toInt = d.toInt := BitVec.toInt_signExtend_of_le (by decide)
  have hw := word_toInt (sext16 d)
  rw [Regs.indexed, BitVec.toNat_add]
  split at hw <;> omega

/-- Settles O5: each accessor by its own law. -/
theorem registerFile : Obligations.RegisterFile := fun g =>
  ⟨fun r v => ⟨fun q => get8_set8 g r q v, set8_restore g r v⟩,
    fun p v => ⟨fun q => getPair_setPair g p q v, setPair_restore g p v⟩,
    ⟨mkWord_toNat .., mkWord_toNat .., mkWord_toNat ..⟩,
    fun x v => ⟨fun y => getIndex_setIndex g x y v, setIndex_restore g x v⟩,
    fun x h v => ⟨fun y k => getHalf_setHalf g x y h k v, setIndex_restore g x _, getIndex_toNat g x⟩,
    fun x v => ⟨fun _ _ h => getX8_setX8_plain g h x v, rfl, rfl, rfl, rfl⟩,
    fun f => ⟨unpack_pack f, pack_toNat f⟩, pack_unpack, indexed_toNat g⟩

end Sys2Proof.Machine

/-! SUPPORT. Every operation of the chips keeps the ranges of the state invariant (spec/61_ctc.md R451, R457; 62_pio.md
R494), so every operation on the state that memory and the chips are written by keeps `State.Inv`. -/

namespace Sys2Proof.Machine

/-! ## CTC chips -/

/-- What the invariant asks of a CTC chip: every channel in range, the vector base a multiple of 8. -/
def Ctc.Good (c : Ctc) : Prop := (∀ n, (c.chan n).inRange) ∧ c.vecbase &&& 0x07 = 0

theorem Ctc.inRange_iff (c : Ctc) : c.inRange ↔ ∀ n, (c.chan n).inRange :=
  ⟨fun ⟨h0, h1, h2, h3⟩ n => by cases n <;> assumption, fun h => ⟨h .ch0, h .ch1, h .ch2, h .ch3⟩⟩

theorem Ctc.Good.setChan {c : Ctc} (hc : c.Good) {n : Chan} {x : Channel} (hx : x.inRange) : (c.setChan n x).Good := by
  refine ⟨fun m => ?_, by simpa using hc.2⟩
  rw [Ctc.chan_setChan]
  split
  · exact hx
  · exact hc.1 m

theorem Divisor.count_inRange (d : Divisor) : 1 ≤ d.count ∧ d.count ≤ 256 := by cases d <;> decide

theorem timeConstant_inRange (v : Byte) : 1 ≤ timeConstant v ∧ timeConstant v ≤ 256 := by
  unfold timeConstant
  split
  next => decide
  next hv =>
    have : v.toNat ≠ 0 := fun h => hv (BitVec.eq_of_toNat_eq h)
    omega

theorem Channel.inRange_start {x : Channel} (h : x.inRange) : x.start.inRange := by
  obtain ⟨c1, c2, r1, r2, -, -⟩ := h
  exact ⟨c1, c2, r1, r2, x.div.count_inRange⟩

theorem Channel.inRange_rollover {x : Channel} (h : x.inRange) : x.rollover.inRange := by
  obtain ⟨-, -, r1, r2, hp⟩ := h
  exact ⟨r1, r2, r1, r2, hp⟩

theorem Channel.inRange_control {x : Channel} (h : x.inRange) (v : Byte) : (x.control v).inRange := by
  unfold Channel.control
  dsimp only
  split <;> exact h

theorem Channel.inRange_timeConst {x : Channel} (h : x.inRange) (v : Byte) : (x.timeConst v).inRange := by
  obtain ⟨c1, c2, -, -, hp⟩ := h
  obtain ⟨v1, v2⟩ := timeConstant_inRange v
  unfold Channel.timeConst
  dsimp only
  split
  · split <;> exact ⟨v1, v2, v1, v2, x.div.count_inRange⟩
  · exact ⟨c1, c2, v1, v2, hp⟩

/-- The counter goes down where that leaves it at least 1. -/
theorem Channel.inRange_countDown {x : Channel} (h : x.inRange) (hn : ¬x.counter - 1 = 0) :
    Channel.inRange { x with counter := x.counter - 1 } := by
  obtain ⟨-, c2, h⟩ := h
  exact ⟨Nat.one_le_iff_ne_zero.2 hn, (Nat.sub_le _ _).trans c2, h⟩

/-- The prescaler goes down where that leaves it at least 1. -/
theorem Channel.inRange_prescale {x : Channel} (h : x.inRange) (hn : ¬x.pre - 1 = 0) :
    Channel.inRange { x with pre := x.pre - 1 } := by
  obtain ⟨c1, c2, r1, r2, -, p2⟩ := h
  exact ⟨c1, c2, r1, r2, Nat.one_le_iff_ne_zero.2 hn, (Nat.sub_le _ _).trans p2⟩

/-- The prescaler starts again from the divisor. -/
theorem Channel.inRange_reloadPre {x : Channel} (h : x.inRange) : Channel.inRange { x with pre := x.div.count } :=
  x.inRange_start h

theorem Ctc.decrement_good {w : Chain} {k : Nat} {n : Chan} {a b : CtcRun} (h : Ctc.decrement w k n a = some b)
    (ha : a.chip.Good) : b.chip.Good := by
  induction k generalizing n a with
  | zero => cases h
  | succ k ih =>
    unfold Ctc.decrement at h
    dsimp only at h
    have hr := ha.setChan (n := n) (Channel.inRange_rollover (ha.1 n))
    split at h
    · split at h
      · cases h; exact hr
      · split at h
        · cases h; exact hr.setChan (Channel.inRange_start (hr.1 _))
        · split at h
          · exact ih h hr
          · cases h; exact hr
    next hn => cases h; exact ha.setChan (Channel.inRange_countDown (ha.1 n) hn)

theorem Ctc.pulse_good {w : Chain} {n : Chan} {a b : CtcRun} (h : Ctc.pulse w n a = some b)
    (ha : a.chip.Good) : b.chip.Good := by
  unfold Ctc.pulse at h
  dsimp only at h
  split at h
  · cases h; exact ha.setChan (Channel.inRange_start (ha.1 n))
  · split at h
    · exact Ctc.decrement_good h ha
    · cases h; exact ha

theorem Ctc.setLevel_good {w : Chain} {n : Chan} {l : Bool} {a b : CtcRun} (h : Ctc.setLevel w n l a = some b)
    (ha : a.chip.Good) : b.chip.Good := by
  unfold Ctc.setLevel at h
  dsimp only at h
  have hl := ha.setChan (n := n) (x := { a.chip.chan n with level := l }) (ha.1 n)
  split at h
  · exact Ctc.pulse_good h hl
  · cases h; exact hl

theorem Ctc.tickChan_good {w : Chain} {n : Chan} {a b : CtcRun} (h : Ctc.tickChan w n a = some b)
    (ha : a.chip.Good) : b.chip.Good := by
  unfold Ctc.tickChan at h
  dsimp only at h
  split at h
  · split at h
    next => exact Ctc.decrement_good h (ha.setChan (Channel.inRange_reloadPre (ha.1 n)))
    next hn => cases h; exact ha.setChan (Channel.inRange_prescale (ha.1 n) hn)
  · cases h; exact ha

theorem Ctc.tick_good {w : Chain} {k : Nat} {a b : CtcRun} (h : Ctc.tick w k a = some b)
    (ha : a.chip.Good) : b.chip.Good := by
  induction k generalizing a with
  | zero => cases h; exact ha
  | succ k ih =>
    simp only [Ctc.tick, Ctc.tickOne, Option.bind_eq_some_iff] at h
    obtain ⟨a3, ⟨a0, h0, a1, h1, a2, h2, h3⟩, h⟩ := h
    exact ih h (tickChan_good h3 (tickChan_good h2 (tickChan_good h1 (tickChan_good h0 ha))))

theorem Ctc.write_good {c : Ctc} (hc : c.Good) (n : Chan) (v : Byte) : (c.write n v).Good := by
  unfold Ctc.write
  dsimp only
  split
  · exact hc.setChan (Channel.inRange_timeConst (hc.1 n) v)
  · split
    · exact hc.setChan (Channel.inRange_control (hc.1 n) v)
    · refine ⟨fun m => hc.1 m, ?_⟩
      simp [BitVec.and_assoc]

theorem Ctc.accept_good {c : Ctc} (hc : c.Good) : c.accept.2.Good := by
  unfold Ctc.accept
  split
  next n _ => exact hc.setChan (hc.1 n)
  · exact hc

/-- One channel leaves service, or none. -/
theorem Ctc.finish_eq (c : Ctc) : c.finish = c ∨ ∃ n, c.finish = c.setChan n { c.chan n with acc := false } := by
  unfold Ctc.finish
  split
  · exact .inr ⟨.ch0, rfl⟩
  · split
    · exact .inr ⟨.ch1, rfl⟩
    · split
      · exact .inr ⟨.ch2, rfl⟩
      · split
        · exact .inr ⟨.ch3, rfl⟩
        · exact .inl rfl

theorem Ctc.finish_good {c : Ctc} (hc : c.Good) : c.finish.Good := by
  obtain e | ⟨n, e⟩ := c.finish_eq
  · rw [e]; exact hc
  · rw [e]; exact hc.setChan (hc.1 n)

theorem Ctc.afterReset_good : Ctc.afterReset.Good := by
  have h : Channel.powerOn.inRange := by unfold Channel.inRange; decide
  exact ⟨fun n => by cases n <;> exact h, by decide⟩

/-! ## PIO chips -/

/-- What the invariant asks of a PIO chip: even vectors. -/
def Pio.Good (p : Pio) : Prop := ∀ x, (p.port x).vector.getLsbD 0 = false

theorem Pio.good_iff (p : Pio) : p.Good ↔ p.a.vector.getLsbD 0 = false ∧ p.b.vector.getLsbD 0 = false :=
  ⟨fun h => ⟨h .a, h .b⟩, fun ⟨ha, hb⟩ x => by cases x <;> assumption⟩

theorem Pio.Good.setPort {p : Pio} (hp : p.Good) {x : PortId} {q : Port} (hq : q.vector.getLsbD 0 = false) :
    (p.setPort x q).Good := by
  intro y
  rw [Pio.port_setPort]
  split
  · exact hq
  · exact hp y

theorem Port.controlWrite_vector {q : Port} (hq : q.vector.getLsbD 0 = false) (v : Byte) :
    (q.controlWrite v).vector.getLsbD 0 = false := by
  unfold Port.controlWrite
  dsimp only
  split
  · exact hq
  · exact hq
  · split
    next hv => simpa using hv
    · split
      · exact hq
      · split
        · exact hq
        · split <;> exact hq

theorem Pio.controlWrite_good {p : Pio} (hp : p.Good) (x : PortId) (v : Byte) : (p.controlWrite x v).Good :=
  hp.setPort (Port.controlWrite_vector (hp x) v)

theorem Pio.evaluate_good {p : Pio} (hp : p.Good) (x : PortId) : (p.evaluate x).Good :=
  hp.setPort (hp x)

theorem Pio.dataWrite_good {p : Pio} (hp : p.Good) (x : PortId) (v : Byte) : (p.dataWrite x v).Good := by
  have hq : (p.setPort x { p.port x with out := v }).Good := hp.setPort (hp x)
  unfold Pio.dataWrite
  dsimp only
  split
  · exact hp.setPort (hp x)
  · exact hp.setPort (hp x)
  · exact hq
  · exact Pio.evaluate_good hq x

theorem Pio.dataRead_good {p : Pio} (hp : p.Good) (x : PortId) : (p.dataRead x).2.Good := by
  unfold Pio.dataRead
  dsimp only
  split
  · exact hp
  · exact hp.setPort (hp _)
  · exact hp.setPort (x := .b) (hp .b)
  · exact hp
  · exact hp

theorem Pio.fetchOut_good {p : Pio} (hp : p.Good) (x : PortId) : (p.fetchOut x).2.Good := by
  unfold Pio.fetchOut
  dsimp only
  split
  · exact hp.setPort (hp x)
  · exact hp.setPort (hp x)
  · exact hp
  · exact hp

theorem Pio.putIn_good {p : Pio} (hp : p.Good) (x : PortId) (v : Byte) : (p.putIn x v).Good := by
  have hq (x : PortId) : (p.setPort x { p.port x with inp := v }).Good := hp.setPort (hp x)
  unfold Pio.putIn
  dsimp only
  split
  · exact hq _
  · exact hp.setPort (hp _)
  · exact (hq .a).setPort (x := .b) (hp .b)
  · exact hq .b
  · exact Pio.evaluate_good (hq _) _

theorem Pio.accept_good {p : Pio} (hp : p.Good) : p.accept.2.Good := by
  unfold Pio.accept
  split
  next x _ => exact hp.setPort (hp x)
  · exact hp

theorem Pio.finish_good {p : Pio} (hp : p.Good) : p.finish.Good := by
  unfold Pio.finish
  split
  · exact hp.setPort (x := .a) (hp .a)
  · split
    · exact hp.setPort (x := .b) (hp .b)
    · exact hp

theorem Pio.afterReset_good : Pio.afterReset.Good := by
  intro x
  cases x <;> decide

/-! ## The invariant -/

/-- The invariant, said of the chips by `Good`. -/
theorem State.inv_iff (s : State) :
    s.Inv ↔ s.mem.wf = true ∧ (∀ c ∈ s.ctcs, c.Good) ∧ (∀ p ∈ s.pios, p.Good) ∧
      s.tTotal < s.platform.tstatesWrap := by
  constructor
  · rintro ⟨hm, hc, hb, hp, ht⟩
    exact ⟨hm, fun c h => ⟨(c.inRange_iff).1 (hc c h), hb c h⟩, fun p h => (p.good_iff).2 (hp p h), ht⟩
  · rintro ⟨hm, hc, hp, ht⟩
    exact ⟨hm, fun c h => (c.inRange_iff).2 (hc c h).1, fun c h => (hc c h).2, fun p h => (p.good_iff).1 (hp p h),
      ht⟩

section

variable {s t : State}

/-- The invariant speaks of memory, the chips, the cumulative counter and the platform only. -/
theorem State.Inv.congr (h : s.Inv) (hm : t.mem = s.mem) (hc : t.ctcs = s.ctcs) (hp : t.pios = s.pios)
    (ht : t.tTotal = s.tTotal) (hw : t.platform = s.platform) : t.Inv := by
  rw [State.inv_iff] at *
  rwa [hm, hc, hp, ht, hw]

theorem State.Inv.ctc_good (h : s.Inv) {k : Nat} {c : Ctc} (hk : s.ctcs[k]? = some c) : c.Good :=
  ((State.inv_iff s).1 h).2.1 c (List.mem_of_getElem? hk)

theorem State.Inv.pio_good (h : s.Inv) {k : Nat} {p : Pio} (hk : s.pios[k]? = some p) : p.Good :=
  ((State.inv_iff s).1 h).2.2.1 p (List.mem_of_getElem? hk)

theorem State.Inv.writeMem (h : s.Inv) (a : Word) (v : Byte) :
    State.Inv { s with mem := s.mem.write a.toNat v } :=
  { h with memory := Memory.wf_write a.isLt h.memory }

theorem State.Inv.setCtc (h : s.Inv) {k : Nat} {c : Ctc} (hc : c.Good) :
    State.Inv { s with ctcs := s.ctcs.set k c } := by
  obtain ⟨hm, hcs, hps, ht⟩ := (State.inv_iff s).1 h
  refine (State.inv_iff _).2 ⟨hm, fun d hd => ?_, hps, ht⟩
  obtain hd | rfl := List.mem_or_eq_of_mem_set hd
  · exact hcs d hd
  · exact hc

theorem State.Inv.setPio (h : s.Inv) {k : Nat} {p : Pio} (hp : p.Good) :
    State.Inv { s with pios := s.pios.set k p } := by
  obtain ⟨hm, hcs, hps, ht⟩ := (State.inv_iff s).1 h
  refine (State.inv_iff _).2 ⟨hm, hcs, fun d hd => ?_, ht⟩
  obtain hd | rfl := List.mem_or_eq_of_mem_set hd
  · exact hps d hd
  · exact hp

/-! ## The operations on the state that write memory or a chip -/

theorem writeAs_inv (h : s.Inv) (n : Bool) (a : Word) (v : Byte) : (writeAs n a v s).Inv := by
  unfold writeAs storeByte
  split
  · exact (h.writeMem a v).congr rfl rfl rfl rfl rfl
  · exact h.congr rfl rfl rfl rfl rfl

theorem push16_inv (h : s.Inv) (v : Word) : (push16 v s).Inv :=
  (writeAs_inv (writeAs_inv h _ _ _) true _ _).congr rfl rfl rfl rfl rfl

theorem unanswered_inv (h : s.Inv) : (unanswered s).2.Inv := by
  unfold unanswered
  split
  · exact h
  · exact h.congr rfl rfl rfl rfl rfl

theorem portRead_inv (h : s.Inv) (p : Word) : (portRead p s).2.Inv := by
  have hd : (drawByte s).2.Inv := h.congr rfl rfl rfl rfl rfl
  unfold portRead
  split
  · split
    · exact h
    · exact unanswered_inv h
  · split
    next hq => exact h.setPio (Pio.dataRead_good (h.pio_good hq) _)
    · exact unanswered_inv h
  · split
    · exact hd
    · exact unanswered_inv h
  · exact hd
  · exact unanswered_inv h

theorem portWrite_inv (h : s.Inv) (p : Word) (v : Byte) : (portWrite p v s).Inv := by
  unfold portWrite
  split
  · split
    next hc => exact h.setCtc (Ctc.write_good (h.ctc_good hc) _ _)
    · exact h
  · split
    next hq => exact h.setPio (Pio.dataWrite_good (h.pio_good hq) _ _)
    · exact h
  · split
    next hq => exact h.setPio (Pio.controlWrite_good (h.pio_good hq) _ _)
    · exact h
  · exact h
  · exact h

theorem sourceAccept_inv (h : s.Inv) (id : SourceId) : (sourceAccept id s).2.Inv := by
  unfold sourceAccept
  split
  · split
    next hc => exact h.setCtc (Ctc.accept_good (h.ctc_good hc))
    · exact h
  · split
    next hq => exact h.setPio (Pio.accept_good (h.pio_good hq))
    · exact h

theorem sourceFinish_inv (h : s.Inv) (id : SourceId) : (sourceFinish id s).Inv := by
  unfold sourceFinish
  split
  · split
    next hc => exact h.setCtc (Ctc.finish_good (h.ctc_good hc))
    · exact h
  · split
    next hq => exact h.setPio (Pio.finish_good (h.pio_good hq))
    · exact h

theorem finishService_inv (h : s.Inv) : (finishService s).Inv := by
  unfold finishService
  split
  · exact sourceFinish_inv h _
  · exact h

theorem ctcOp_inv {k : Nat} {op : Chain → CtcRun → Option CtcRun}
    (hop : ∀ w a b, op w a = some b → a.chip.Good → b.chip.Good) (h : ctcOp k op s = some t) (hs : s.Inv) :
    t.Inv := by
  unfold ctcOp at h
  split at h
  next => cases h; exact hs
  next hc =>
    obtain ⟨b, hb, rfl⟩ := Option.map_eq_some_iff.1 h
    exact (hs.setCtc (k := k) (hop _ _ _ hb (hs.ctc_good hc))).congr rfl rfl rfl rfl rfl

theorem tickChips_inv {n : Nat} {ks : List Nat} (h : tickChips n ks s = some t) (hs : s.Inv) : t.Inv := by
  induction ks generalizing s with
  | nil => cases h; exact hs
  | cons k ks ih =>
    obtain ⟨u, hu, h⟩ := Option.bind_eq_some_iff.1 h
    exact ih h (ctcOp_inv (fun _ _ _ => Ctc.tick_good) hu hs)

theorem resetMachine_inv (h : s.Inv) (powerOn : Bool) (draw : Regs) (drawFlags : Flags) :
    (resetMachine powerOn draw drawFlags s).Inv := by
  obtain ⟨hm, -, -, ht⟩ := (State.inv_iff s).1 h
  refine (State.inv_iff _).2 ⟨hm, fun c hc => ?_, fun p hp => ?_, Nat.zero_lt_of_lt ht⟩
  · obtain ⟨_, -, rfl⟩ := List.mem_map.1 hc
    exact Ctc.afterReset_good
  · obtain ⟨_, -, rfl⟩ := List.mem_map.1 hp
    exact Pio.afterReset_good

end

/-- Settles O2: the chips are those of a reset, memory is empty, the counter is 0. -/
theorem resetMeetsInvariant : Obligations.ResetMeetsInvariant := by
  refine (State.inv_iff _).2 ⟨reset_wf, fun c hc => ?_, fun p hp => ?_, by decide⟩
  · rw [List.mem_singleton.1 hc]
    exact Ctc.afterReset_good
  · rw [List.mem_singleton.1 hp]
    exact Pio.afterReset_good

end Sys2Proof.Machine

/-! SUPPORT. What an instruction writes outside the main registers, the flags, PC, R, T and the trace, said once:
`Confined w s t` holds of a change from `s` to `t` that keeps the invariant and, of the parts of the state listed below,
writes only those in `w`. One lemma for each operation that a meaning is made of, then the meanings
(spec/10_state.md R23, R24, R27, R29, R30, R37, R38, R40 to R42). -/

namespace Sys2Proof.Machine

/-! ## Parts of the state -/

/-- The parts of the state that few instructions write: A' and F'; B' to L'; IX; IY; I; IM; the interrupt flip-flops;
the EI/DI latch; halted; the NMI latch, the wait states and the cumulative counter. -/
inductive Part where
  | afAlt | bcdehlAlt | index (x : Index) | i | im | iff1 | iff2 | eidi | halted | nmiPending | waitAcc | tTotal

/-- The part is in `t` as in `s`. -/
def Part.Same (s t : State) : Part → Prop
  | .afAlt => t.regs.aAlt = s.regs.aAlt ∧ t.regs.fAlt = s.regs.fAlt
  | .bcdehlAlt =>
    t.regs.bAlt = s.regs.bAlt ∧ t.regs.cAlt = s.regs.cAlt ∧ t.regs.dAlt = s.regs.dAlt ∧
      t.regs.eAlt = s.regs.eAlt ∧ t.regs.hAlt = s.regs.hAlt ∧ t.regs.lAlt = s.regs.lAlt
  | .index x => t.regs.getIndex x = s.regs.getIndex x
  | .i => t.i = s.i
  | .im => t.im = s.im
  | .iff1 => t.iff1 = s.iff1
  | .iff2 => t.iff2 = s.iff2
  | .eidi => t.eidi = s.eidi
  | .halted => t.halted = s.halted
  | .nmiPending => t.nmiPending = s.nmiPending
  | .waitAcc => t.waitAcc = s.waitAcc
  | .tTotal => t.tTotal = s.tTotal

/-- From `s` to `t` the parts in `w` may change and no other part does; the state invariant is kept. -/
structure Confined (w : Part → Prop) (s t : State) : Prop where
  same : ∀ p, ¬w p → p.Same s t
  inv : s.Inv → t.Inv

/-- The register file `g` with the main set and SP of `g'`. -/
def Regs.withMain (g g' : Regs) : Regs :=
  { g with a := g'.a, b := g'.b, c := g'.c, d := g'.d, e := g'.e, h := g'.h, l := g'.l, sp := g'.sp }

/-- The state `s` with what no `Part` covers taken from `s'`, memory and the chips apart. -/
def State.withMain (s s' : State) : State :=
  { s with
    regs := s.regs.withMain s'.regs
    flags := s'.flags, pc := s'.pc, rlo7 := s'.rlo7, rbit7 := s'.rbit7, afterPrefix := s'.afterPrefix
    t := s'.t, draws := s'.draws, trace := s'.trace }

section

variable {w : Part → Prop} {s u v : State}

@[simp] theorem Confined.refl (w : Part → Prop) (s : State) : Confined w s s where
  same p _ := by cases p <;> simp [Part.Same]
  inv := id

theorem Part.Same.trans {p : Part} (h : p.Same s u) (h' : p.Same u v) : p.Same s v := by
  cases p <;> simp_all [Part.Same]

theorem Confined.trans (h : Confined w s u) (h' : Confined w u v) : Confined w s v where
  same p hp := (h.same p hp).trans (h'.same p hp)
  inv hs := h'.inv (h.inv hs)

theorem Confined.mono {w' : Part → Prop} (hw : ∀ p, w p → w' p) (h : Confined w s u) : Confined w' s u where
  same p hp := h.same p fun hwp => hp (hw p hwp)
  inv := h.inv

/-- A change that leaves what the invariant speaks of needs its parts looked at only. -/
theorem Confined.of_parts (hm : u.mem = s.mem) (hc : u.ctcs = s.ctcs) (hp : u.pios = s.pios)
    (ht : u.tTotal = s.tTotal) (hw : u.platform = s.platform) (h : ∀ p, ¬w p → p.Same s u) : Confined w s u :=
  ⟨h, fun hs => hs.congr hm hc hp ht hw⟩

@[simp] theorem Confined.ite {c : Prop} [Decidable c] (hu : Confined w s u) (hv : Confined w s v) :
    Confined w s (if c then u else v) := by
  split <;> assumption

/-- A change of the main set, SP, the flags, PC, R, T, the draws and the trace concerns no part. -/
theorem confined_iff_of_main (h : v = u.withMain v) : Confined w s v ↔ Confined w s u := by
  have hv : v.Inv ↔ u.Inv := by
    rw [h]
    exact ⟨fun hi => hi.congr rfl rfl rfl rfl rfl, fun hi => hi.congr rfl rfl rfl rfl rfl⟩
  have hp (p : Part) : p.Same s v ↔ p.Same s u := by
    rw [h]
    cases p <;> exact Iff.rfl
  exact ⟨fun ⟨k, i⟩ => ⟨fun p hw => (hp p).1 (k p hw), fun hs => hv.1 (i hs)⟩,
    fun ⟨k, i⟩ => ⟨fun p hw => (hp p).2 (k p hw), fun hs => hv.2 (i hs)⟩⟩

/-- An operation of memory or of the chips that keeps the invariant writes no part. -/
theorem Confined.of_devices {m : Memory} {cs : List Ctc} {ps : List Pio} {d : Nat} {tr : List Event}
    (h : Confined w s u) (hv : v = { u with mem := m, ctcs := cs, pios := ps, draws := d, trace := tr })
    (hi : u.Inv → v.Inv) : Confined w s v := by
  refine h.trans ⟨fun p _ => ?_, hi⟩
  rw [hv]
  cases p <;> simp [Part.Same]

/-- A write of main registers, their new values computed in any way. -/
theorem Confined.withMainRegs (h : Confined w s u) {g : Regs} (hg : g = u.regs.withMain g) :
    Confined w s (u.withRegs g) :=
  (confined_iff_of_main (congrArg u.withRegs hg : _ = u.withRegs (u.regs.withMain g))).2 h

/-- A write of an index register that is among the parts `w`. -/
theorem Confined.setIndex (h : Confined w s u) {x : Index} (hx : w (.index x)) (y : Word) :
    Confined w s (u.withRegs (u.regs.setIndex x y)) := by
  refine h.trans ⟨fun p hp => ?_, fun hi => hi.congr rfl rfl rfl rfl rfl⟩
  cases p with
  | index y =>
    have hne : y ≠ x := fun e => hp (e ▸ hx)
    exact (getIndex_setIndex u.regs x y _).trans (if_neg hne)
  | _ => cases x <;> simp [Part.Same, Regs.setIndex]

/-! ## Operations that concern no part -/

@[simp] theorem confined_charge (n : Nat) : Confined w s (charge n u) ↔ Confined w s u := confined_iff_of_main rfl

@[simp] theorem confined_observe (e : Event) : Confined w s (observe e u) ↔ Confined w s u :=
  confined_iff_of_main rfl

@[simp] theorem confined_withFlags (f : Flags) : Confined w s (u.withFlags f) ↔ Confined w s u :=
  confined_iff_of_main rfl

@[simp] theorem confined_setA (x : Byte) : Confined w s (u.setA x) ↔ Confined w s u := confined_iff_of_main rfl

@[simp] theorem confined_setReg8 (r : Reg8) (x : Byte) : Confined w s (u.setReg8 r x) ↔ Confined w s u := by
  cases r <;> exact confined_iff_of_main rfl

@[simp] theorem confined_setPc (a : Word) : Confined w s (setPc a u) ↔ Confined w s u := confined_iff_of_main rfl

@[simp] theorem confined_setSp (x : Word) : Confined w s (setSp x u) ↔ Confined w s u := confined_iff_of_main rfl

@[simp] theorem confined_setPair (p : Pair) (x : Word) :
    Confined w s (u.withRegs (u.regs.setPair p x)) ↔ Confined w s u := by
  cases p <;> exact confined_iff_of_main rfl

@[simp] theorem confined_setHl (x : Word) : Confined w s (u.withRegs (u.regs.setHl x)) ↔ Confined w s u :=
  confined_setPair .hl x

@[simp] theorem confined_setStackPair (q : StackPair) (x : Word) :
    Confined w s (u.setStackPair q x) ↔ Confined w s u := by
  cases q <;> exact confined_iff_of_main rfl

@[simp] theorem confined_setRefresh (x : Byte) : Confined w s (setRefresh x u) ↔ Confined w s u :=
  confined_iff_of_main rfl

@[simp] theorem confined_chainStep : Confined w s (chainStep u) ↔ Confined w s u := confined_iff_of_main rfl

@[simp] theorem confined_memRead (a : Word) : Confined w s ((memRead a u).2) ↔ Confined w s u :=
  confined_iff_of_main rfl

@[simp] theorem confined_readWord (k : WordAccess) (a : Word) : Confined w s ((readWord k a u).2) ↔ Confined w s u :=
  confined_iff_of_main rfl

@[simp] theorem confined_pop16 : Confined w s ((pop16 u).2) ↔ Confined w s u := confined_iff_of_main rfl

@[simp] theorem confined_returnFromCall : Confined w s (returnFromCall u) ↔ Confined w s u := confined_iff_of_main rfl

@[simp] theorem confined_jumpRelative (e : Byte) : Confined w s (jumpRelative e u) ↔ Confined w s u :=
  confined_iff_of_main rfl

@[simp] theorem confined_repeatIf (taken other : Nat) (again : Bool) :
    Confined w s (repeatIf taken other again u) ↔ Confined w s u := by
  cases again <;> exact confined_iff_of_main rfl

@[simp] theorem confined_toA (r : Byte × Flags) : Confined w s (toA r u) ↔ Confined w s u := confined_iff_of_main rfl

@[simp] theorem confined_addA (x : Byte) : Confined w s (addA x u) ↔ Confined w s u := confined_toA _

@[simp] theorem confined_adcA (x : Byte) : Confined w s (adcA x u) ↔ Confined w s u := confined_toA _

@[simp] theorem confined_subA (x : Byte) : Confined w s (subA x u) ↔ Confined w s u := confined_toA _

@[simp] theorem confined_sbcA (x : Byte) : Confined w s (sbcA x u) ↔ Confined w s u := confined_toA _

@[simp] theorem confined_andA (x : Byte) : Confined w s (andA x u) ↔ Confined w s u := confined_toA _

@[simp] theorem confined_xorA (x : Byte) : Confined w s (xorA x u) ↔ Confined w s u := confined_toA _

@[simp] theorem confined_orA (x : Byte) : Confined w s (orA x u) ↔ Confined w s u := confined_toA _

@[simp] theorem confined_cpA (x : Byte) : Confined w s (cpA x u) ↔ Confined w s u := confined_iff_of_main rfl

@[simp] theorem confined_toHl (r : Word × Flags) : Confined w s (toHl r u) ↔ Confined w s u :=
  confined_iff_of_main rfl

@[simp] theorem confined_stepReg (op : Byte → Flags → Byte × Flags) (r : Reg8) :
    Confined w s (stepReg op r u) ↔ Confined w s u :=
  (confined_withFlags _).trans (confined_setReg8 _ _)

@[simp] theorem confined_testMem (b : BitVec 3) (a : Word) : Confined w s (testMem b a u) ↔ Confined w s u :=
  confined_iff_of_main rfl

@[simp] theorem confined_changeReg (f : Byte → Byte) (r : Reg8) : Confined w s (changeReg f r u) ↔ Confined w s u :=
  confined_setReg8 _ _

@[simp] theorem confined_cpBlock (step : Word) : Confined w s (cpBlock step u) ↔ Confined w s u :=
  confined_iff_of_main rfl

@[simp] theorem confined_loadPair (p : Pair) (nn : Word) : Confined w s (loadPair p nn u) ↔ Confined w s u :=
  (confined_setPair _ _).trans (confined_readWord _ _)

@[simp] theorem confined_loadFrom (a : Word) (r : Reg8) : Confined w s (loadFrom a r u) ↔ Confined w s u :=
  (confined_setReg8 _ _).trans (confined_memRead _)

@[simp] theorem confined_loadAFrom (a : Word) : Confined w s (loadAFrom a u) ↔ Confined w s u := confined_loadFrom _ _

@[simp] theorem confined_loadSpecial (x : Byte) : Confined w s (loadSpecial x u) ↔ Confined w s u :=
  confined_iff_of_main rfl

@[simp] theorem confined_rotateA (op : RotOp) : Confined w s (rotateA op u) ↔ Confined w s u :=
  confined_iff_of_main rfl

@[simp] theorem confined_rotateReg (op : RotOp) (r : Reg8) : Confined w s (rotateReg op r u) ↔ Confined w s u :=
  (confined_withFlags _).trans (confined_setReg8 _ _)

@[simp] theorem confined_digitResult (x : Byte) : Confined w s (digitResult x u) ↔ Confined w s u :=
  confined_iff_of_main rfl

/-! ## Memory and ports -/

theorem Confined.writeAs (h : Confined w s u) (n : Bool) (a : Word) (x : Byte) : Confined w s (writeAs n a x u) :=
  h.of_devices (writeAs_state n a x u) fun hi => writeAs_inv hi n a x

@[simp] theorem Confined.memWrite (h : Confined w s u) (a : Word) (x : Byte) : Confined w s (memWrite a x u) :=
  h.writeAs true a x

@[simp] theorem Confined.writeWord (h : Confined w s u) (k : WordAccess) (a x : Word) :
    Confined w s (writeWord k a x u) :=
  (h.writeAs true a _).writeAs _ _ _

@[simp] theorem Confined.push16 (h : Confined w s u) (x : Word) : Confined w s (push16 x u) :=
  (confined_setSp _).2 ((h.writeAs _ _ _).writeAs true _ _)

@[simp] theorem Confined.callTo (h : Confined w s u) (a : Word) : Confined w s (callTo a u) :=
  (confined_setPc a).2 (h.push16 u.pc)

@[simp] theorem Confined.ioRead (h : Confined w s u) (p : Word) : Confined w s (ioRead p u).2 :=
  (confined_observe _).2 (h.of_devices (portRead_state p u) fun hi => portRead_inv hi p)

@[simp] theorem Confined.ioWrite (h : Confined w s u) (p : Word) (x : Byte) : Confined w s (ioWrite p x u) :=
  (confined_observe _).2 (h.of_devices (portWrite_state p x u) fun hi => portWrite_inv hi p x)

theorem Confined.finishService (h : Confined w s u) : Confined w s (finishService u) :=
  h.of_devices (finishService_state u) finishService_inv

/-- A value written back to memory after a read. -/
@[simp] theorem Confined.stepMem (h : Confined w s u) (op : Byte → Flags → Byte × Flags) (a : Word) :
    Confined w s (stepMem op a u) :=
  ((confined_withFlags _).2 ((confined_memRead a).2 h)).memWrite a _

theorem Confined.changeMem (h : Confined w s u) (f : Byte → Byte) (a : Word) : Confined w s (changeMem f a u).2 :=
  ((confined_memRead a).2 h).memWrite a _

@[simp] theorem Confined.changeAtHl (h : Confined w s u) (f : Byte → Byte) : Confined w s (changeAtHl f u) :=
  h.changeMem f _

@[simp] theorem Confined.changeIndexed (h : Confined w s u) (f : Byte → Byte) (x : Index) (d : Byte) :
    Confined w s (changeIndexed f x d u) :=
  h.changeMem f _

@[simp] theorem Confined.changeIndexedCopy (h : Confined w s u) (f : Byte → Byte) (x : Index) (d : Byte) (r : Reg8) :
    Confined w s (changeIndexedCopy f x d r u) :=
  (confined_setReg8 r _).2 (h.changeMem f _)

theorem Confined.rotateMem (h : Confined w s u) (op : RotOp) (a : Word) : Confined w s (rotateMem op a u).2 :=
  ((confined_withFlags _).2 ((confined_memRead a).2 h)).memWrite a _

@[simp] theorem Confined.rotateAtHl (h : Confined w s u) (op : RotOp) : Confined w s (rotateAtHl op u) :=
  h.rotateMem op _

@[simp] theorem Confined.rotateIndexed (h : Confined w s u) (op : RotOp) (x : Index) (d : Byte) :
    Confined w s (rotateIndexed op x d u) :=
  h.rotateMem op _

@[simp] theorem Confined.rotateIndexedCopy (h : Confined w s u) (op : RotOp) (x : Index) (d : Byte) (r : Reg8) :
    Confined w s (rotateIndexedCopy op x d r u) :=
  (confined_setReg8 r _).2 (h.rotateMem op _)

@[simp] theorem Confined.exchangeTop (h : Confined w s u) (x : Word) : Confined w s (exchangeTop x u).2 :=
  (((confined_readWord .exRead _).2 h).writeAs _ _ _).writeAs true _ _

/-! ## Block instructions -/

theorem ioRead_regs (p : Word) (s : State) : (ioRead p s).2.regs = s.regs :=
  (congrArg State.regs (portRead_state p s) :)

theorem ioWrite_regs (p : Word) (x : Byte) (s : State) : (ioWrite p x s).regs = s.regs :=
  (congrArg State.regs (portWrite_state p x s) :)

@[simp] theorem Confined.ldBlock (h : Confined w s u) (step : Word) : Confined w s (ldBlock step u) :=
  (confined_withFlags _).2
    ((((confined_memRead _).2 h).memWrite _ _).withMainRegs (by rw [memWrite_regs]; rfl))

@[simp] theorem Confined.inBlock (h : Confined w s u) (step : Word) : Confined w s (inBlock step u) :=
  (confined_withFlags _).2
    (((h.ioRead _).memWrite _ _).withMainRegs (by rw [memWrite_regs, ioRead_regs]; rfl))

@[simp] theorem Confined.outBlock (h : Confined w s u) (step : Word) : Confined w s (outBlock step u) :=
  (confined_withFlags _).2
    ((((confined_memRead _).2 h).ioWrite _ _).withMainRegs (by rw [ioWrite_regs]; rfl))

/-! ## Index registers -/

section

variable {x : Index}

theorem Confined.setHalf (h : Confined w s u) (hx : w (.index x)) (k : Half) (y : Byte) :
    Confined w s (u.withRegs (u.regs.setHalf x k y)) :=
  h.setIndex hx _

theorem Confined.addIndex (h : Confined w s u) (hx : w (.index x)) (p : XPair) :
    Confined w s (addIndex x p u) :=
  (confined_withFlags _).2 (h.setIndex hx _)

theorem Confined.stepHalf (h : Confined w s u) (hx : w (.index x)) (op : Byte → Flags → Byte × Flags)
    (k : Half) : Confined w s (stepHalf op x k u) :=
  (confined_withFlags _).2 (h.setHalf hx k _)

theorem Confined.loadHalf (h : Confined w s u) (hx : w (.index x)) (k : Half) (n : Byte) :
    Confined w s (loadHalf x k n u) :=
  h.setHalf hx k n

theorem Confined.loadX8 (h : Confined w s u) (hx : w (.index x)) (r r2 : XReg8) :
    Confined w s (loadX8 x r r2 u) := by
  cases r with
  | xh => exact h.setHalf hx .hi _
  | xl => exact h.setHalf hx .lo _
  | _ => exact h.withMainRegs rfl

theorem Confined.loadIndex (h : Confined w s u) (hx : w (.index x)) (nn : Word) :
    Confined w s (loadIndex x nn u) :=
  ((confined_readWord .load nn).2 h).setIndex hx _

theorem Confined.popIndex (h : Confined w s u) (hx : w (.index x)) : Confined w s (popIndex x u) :=
  (confined_pop16.2 h).setIndex hx _

theorem Confined.exchangeIndex (h : Confined w s u) (hx : w (.index x)) : Confined w s (exchangeIndex x u) :=
  (h.exchangeTop _).setIndex hx _

end

end

/-! ## The meanings

A meaning answers `.next` of the operations above, so the equation in `h` says what the state after it is. -/

/-- The base-page instruction writes the part. -/
inductive BaseWrites : Instr → Part → Prop where
  | exAfAf : BaseWrites .exAfAf .afAlt
  | exx : BaseWrites .exx .bcdehlAlt
  | halt : BaseWrites .halt .halted
  | diIff1 : BaseWrites .di .iff1
  | diIff2 : BaseWrites .di .iff2
  | diEidi : BaseWrites .di .eidi
  | eiIff1 : BaseWrites .ei .iff1
  | eiIff2 : BaseWrites .ei .iff2
  | eiEidi : BaseWrites .ei .eidi

/-- The instruction writes the index register, or a half of it. -/
inductive WritesIndex : Instr → Index → Prop where
  | addIxP (p : XPair) : WritesIndex (.addIxP p) .ix
  | ldIxNn (nn : Word) : WritesIndex (.ldIxNn nn) .ix
  | ldIxAtNn (nn : Word) : WritesIndex (.ldIxAtNn nn) .ix
  | ldIxhN (n : Byte) : WritesIndex (.ldIxhN n) .ix
  | ldIxlN (n : Byte) : WritesIndex (.ldIxlN n) .ix
  | ldRSIx (r r2 : XReg8) : WritesIndex (.ldRSIx r r2) .ix
  | incIx : WritesIndex .incIx .ix
  | decIx : WritesIndex .decIx .ix
  | incIxh : WritesIndex .incIxh .ix
  | decIxh : WritesIndex .decIxh .ix
  | incIxl : WritesIndex .incIxl .ix
  | decIxl : WritesIndex .decIxl .ix
  | popIx : WritesIndex .popIx .ix
  | exAtSpIx : WritesIndex .exAtSpIx .ix
  | addIyP (p : XPair) : WritesIndex (.addIyP p) .iy
  | ldIyNn (nn : Word) : WritesIndex (.ldIyNn nn) .iy
  | ldIyAtNn (nn : Word) : WritesIndex (.ldIyAtNn nn) .iy
  | ldIyhN (n : Byte) : WritesIndex (.ldIyhN n) .iy
  | ldIylN (n : Byte) : WritesIndex (.ldIylN n) .iy
  | ldRSIy (r r2 : XReg8) : WritesIndex (.ldRSIy r r2) .iy
  | incIy : WritesIndex .incIy .iy
  | decIy : WritesIndex .decIy .iy
  | incIyh : WritesIndex .incIyh .iy
  | decIyh : WritesIndex .decIyh .iy
  | incIyl : WritesIndex .incIyl .iy
  | decIyl : WritesIndex .decIyl .iy
  | popIy : WritesIndex .popIy .iy
  | exAtSpIy : WritesIndex .exAtSpIy .iy

/-- The instruction writes the part; after an ignored DD or FD byte, as its base-page instruction. -/
inductive Writes : Instr → Part → Prop where
  | base {i : Instr} {p : Part} (h : BaseWrites i p) : Writes i p
  | ddIgnored {base : Instr} {p : Part} (h : BaseWrites base p) : Writes (.ddIgnored base) p
  | fdIgnored {base : Instr} {p : Part} (h : BaseWrites base p) : Writes (.fdIgnored base) p
  | index {i : Instr} {x : Index} (h : WritesIndex i x) : Writes i (.index x)
  | ldIA : Writes .ldIA .i
  | im0 (x1 x0 : Bool) : Writes (.im0 x1 x0) .im
  | im1 (x1 : Bool) : Writes (.im1 x1) .im
  | im2 (x1 : Bool) : Writes (.im2 x1) .im
  | reti : Writes .reti .iff1
  | retn (x : BitVec 3) : Writes (.retn x) .iff1

section

variable {s t : State}

/-- RETN and RETI write IFF1 and otherwise return as RET does. -/
theorem Confined.returnFromInterrupt {w : Part → Prop} {u : State} (h : Confined w s u) (hw : w .iff1) :
    Confined w s (returnFromInterrupt u) := by
  refine (confined_returnFromCall.2 h).trans (.of_parts rfl rfl rfl rfl rfl fun p hp => ?_)
  cases p with
  | iff1 => exact absurd hw hp
  | _ => simp [Part.Same, Machine.returnFromInterrupt]

theorem execBaseRow_confined {i : Instr} (h : execBaseRow i s = .next t) : Confined (BaseWrites i) s t := by
  cases i with
  | exAfAf | exx | halt | di | ei =>
    cases h
    refine .of_parts rfl rfl rfl rfl rfl fun p hp => ?_
    cases p <;>
      simp_all [Part.Same, Regs.getIndex, BaseWrites.exAfAf, BaseWrites.exx, BaseWrites.halt, BaseWrites.diIff1,
        BaseWrites.diIff2, BaseWrites.diEidi, BaseWrites.eiIff1, BaseWrites.eiIff2, BaseWrites.eiEidi]
  | exDeHl =>
    cases h
    exact (confined_charge _).2 ((Confined.refl ..).withMainRegs rfl)
  | _ => cases h <;> simp [onReg, onImm, onAtHl, onMem]

theorem execDdIgnored_confined {base : Instr} (h : execDdIgnored base s = .next t) :
    Confined (Writes (.ddIgnored base)) s t :=
  ((confined_charge (s.cost (.ddIgnored base) 4)).2 (.refl _ s)).trans
    (.mono (fun _ => .ddIgnored) (execBaseRow_confined h))

theorem execFdIgnored_confined {base : Instr} (h : execFdIgnored base s = .next t) :
    Confined (Writes (.fdIgnored base)) s t :=
  ((confined_charge (s.cost (.fdIgnored base) 4)).2 (.refl _ s)).trans
    (.mono (fun _ => .fdIgnored) (execBaseRow_confined h))

/-- Every row writes the parts that `Writes` gives it and no other. NEG is taken apart by `injection`: comparing the
states by unfolding them would count down the modulus of `sub8`. -/
theorem execRow_confined {i : Instr} (h : execRow i s = .next t) : Confined (Writes i) s t := by
  cases i with
  | ddIgnored base => exact execDdIgnored_confined h
  | fdIgnored base => exact execFdIgnored_confined h
  | ldIA | im0 | im1 | im2 =>
    cases h
    refine .of_parts rfl rfl rfl rfl rfl fun p hp => ?_
    cases p <;> simp_all [Part.Same, Writes.ldIA, Writes.im0, Writes.im1, Writes.im2]
  | reti =>
    cases h
    exact (confined_charge _).2 (((Confined.refl ..).returnFromInterrupt .reti).finishService)
  | retn =>
    cases h
    exact (confined_charge _).2 ((Confined.refl ..).returnFromInterrupt (.retn _))
  | addIxP | addIyP =>
    cases h
    exact (confined_charge _).2 ((Confined.refl ..).addIndex (.index (by constructor)) _)
  | ldIxNn | ldIyNn | incIx | incIy | decIx | decIy =>
    cases h
    exact (confined_charge _).2 ((Confined.refl ..).setIndex (.index (by constructor)) _)
  | ldIxAtNn | ldIyAtNn =>
    cases h
    exact (confined_charge _).2 ((Confined.refl ..).loadIndex (.index (by constructor)) _)
  | ldIxhN | ldIxlN | ldIyhN | ldIylN =>
    cases h
    exact (confined_charge _).2 ((Confined.refl ..).loadHalf (.index (by constructor)) _ _)
  | ldRSIx | ldRSIy =>
    cases h
    exact (confined_charge _).2 ((Confined.refl ..).loadX8 (.index (by constructor)) _ _)
  | incIxh | incIxl | decIxh | decIxl | incIyh | incIyl | decIyh | decIyl =>
    cases h
    exact (confined_charge _).2 ((Confined.refl ..).stepHalf (.index (by constructor)) _ _)
  | popIx | popIy =>
    cases h
    exact (confined_charge _).2 ((Confined.refl ..).popIndex (.index (by constructor)))
  | exAtSpIx | exAtSpIy =>
    cases h
    exact (confined_charge _).2 ((Confined.refl ..).exchangeIndex (.index (by constructor)))
  | exAfAf | exx | halt | di | ei | exDeHl => exact .mono (fun _ => .base) (execBaseRow_confined h)
  | neg x =>
    injection h with h
    rw [← h]
    simp
  | _ => cases h <;> simp [onReg, onImm, onHalf, onAtHl, onIndexed, onMem]

end

end Sys2Proof.Machine

/-! SUPPORT. Who writes which part of the state, and the statements that follow: the alternate set, the control
registers, the index registers (spec/10_state.md R23, R24, R27, R29, R30, R37, R38, R40 to R42). -/

namespace Sys2Proof.Machine

open Sys2Proof.Claim

section

variable {i : Instr} {s t : State}

/-- Every row but those that only begin a page has its meaning in `execRow`. -/
theorem exec_eq_execRow (hi : i.isPrefixRow = false) (s : State) : exec i s = execRow i s := by
  cases i with
  | prefixCb | prefixDd | prefixEd | prefixFd | prefixDdCb | prefixFdCb => cases hi
  | _ => rfl

theorem exec_confined (hi : i.isPrefixRow = false) (h : exec i s = .next t) : Confined (Writes i) s t :=
  execRow_confined (exec_eq_execRow hi s ▸ h)

/-! ## The writers of a part -/

theorem Writes.eq_exAfAf (h : Writes i .afAlt) : unprefixed i = .exAfAf := by
  cases h with
  | base h | ddIgnored h | fdIgnored h => cases h; rfl

theorem Writes.eq_exx (h : Writes i .bcdehlAlt) : unprefixed i = .exx := by
  cases h with
  | base h | ddIgnored h | fdIgnored h => cases h; rfl

theorem Writes.eq_halt (h : Writes i .halted) : unprefixed i = .halt := by
  cases h with
  | base h | ddIgnored h | fdIgnored h => cases h; rfl

theorem Writes.eq_ldIA (h : Writes i .i) : unprefixed i = .ldIA := by
  cases h with
  | ldIA => rfl
  | base h | ddIgnored h | fdIgnored h => cases h

theorem Writes.eq_im (h : Writes i .im) : (∃ x1 x0, i = .im0 x1 x0) ∨ ∃ x1, i = .im1 x1 ∨ i = .im2 x1 := by
  cases h with
  | im0 x1 x0 => exact .inl ⟨x1, x0, rfl⟩
  | im1 x1 => exact .inr ⟨x1, .inl rfl⟩
  | im2 x1 => exact .inr ⟨x1, .inr rfl⟩
  | base h | ddIgnored h | fdIgnored h => cases h

theorem Writes.eq_di_or_ei {p : Part} (h : Writes i p) (hp : p = .iff2 ∨ p = .eidi) :
    unprefixed i = .di ∨ unprefixed i = .ei := by
  cases h with
  | base h | ddIgnored h | fdIgnored h => cases h <;> simp_all [unprefixed]
  | _ => simp_all

theorem Writes.eq_of_iff1 (h : Writes i .iff1) :
    unprefixed i = .di ∨ unprefixed i = .ei ∨ i = .reti ∨ ∃ x, i = .retn x := by
  cases h with
  | reti => exact .inr (.inr (.inl rfl))
  | retn x => exact .inr (.inr (.inr ⟨x, rfl⟩))
  | base h | ddIgnored h | fdIgnored h => cases h <;> simp [unprefixed]

/-- No instruction writes the NMI latch, the wait states or the cumulative counter. -/
theorem not_writes_loop {p : Part} (hp : p = .nmiPending ∨ p = .waitAcc ∨ p = .tTotal) : ¬Writes i p := by
  intro h
  cases h with
  | base h | ddIgnored h | fdIgnored h => cases h <;> simp at hp
  | _ => simp at hp

/-- An instruction that writes an index register begins with that register's DD or FD byte (30_encoding.md R102). -/
theorem Writes.encode_head {x : Index} (h : Writes i (.index x)) :
    (encode i).head? = some (x.sel 0xDD 0xFD) := by
  cases h with
  | index h => cases h <;> rfl
  | base h | ddIgnored h | fdIgnored h => cases h

end

/-- Settles O22: EX AF,AF' is the only writer of A' and F', EXX of B' to L'. -/
theorem alternateSetWriters : Obligations.AlternateSetWriters := by
  intro i s t hi h
  have hc := exec_confined hi h
  exact ⟨fun hne => hc.same .afAlt fun hw => hne hw.eq_exAfAf,
    fun hne => hc.same .bcdehlAlt fun hw => hne hw.eq_exx⟩

/-- Settles O23: each control register has the writers listed and no other. -/
theorem controlRegisterWriters : Obligations.ControlRegisterWriters := by
  intro i s t hi h
  have hc := exec_confined hi h
  refine ⟨fun hne => hc.same .i fun hw => hne hw.eq_ldIA, fun h0 h12 => hc.same .im fun hw => ?_,
    fun hdi hei => ⟨hc.same .iff2 fun hw => ?_, hc.same .eidi fun hw => ?_,
      fun hreti hretn => hc.same .iff1 fun hw => ?_⟩,
    fun hne => hc.same .halted fun hw => hne hw.eq_halt, hc.same .nmiPending (not_writes_loop (by simp)),
    hc.same .waitAcc (not_writes_loop (by simp)), hc.same .tTotal (not_writes_loop (by simp))⟩
  · obtain ⟨x1, x0, e⟩ | ⟨x1, e | e⟩ := hw.eq_im
    · exact h0 x1 x0 e
    · exact (h12 x1).1 e
    · exact (h12 x1).2 e
  · exact (hw.eq_di_or_ei (.inl rfl)).elim hdi hei
  · exact (hw.eq_di_or_ei (.inr rfl)).elim hdi hei
  · obtain e | e | e | ⟨x, e⟩ := hw.eq_of_iff1
    · exact hdi e
    · exact hei e
    · exact hreti e
    · exact hretn x e

/-- Settles O24: a writer of IX or IY begins with DD or FD. -/
theorem indexRegisterWriters : Obligations.IndexRegisterWriters := by
  intro i s t hi _ h
  have hc := exec_confined hi h
  exact ⟨fun hne => hc.same (.index .ix) fun hw => hne hw.encode_head,
    fun hne => hc.same (.index .iy) fun hw => hne hw.encode_head⟩

end Sys2Proof.Machine

/-! SUPPORT. Every step keeps the state invariant: the fetch and the meanings, the interrupt phase, the end of an
iteration, the host's interactions (spec/60_exceptions.md R404, R414, R418). -/

namespace Sys2Proof.Machine

section

variable {s t : State}

/-! ## One instruction -/

theorem fetchM1s_inv (h : s.Inv) (n : Nat) : (fetchM1s n s).Inv := by
  obtain ⟨_, _, e⟩ := fetchM1s_spec n s
  rw [e]
  exact h.congr rfl rfl rfl rfl rfl

theorem fetchOperand_inv (h : s.Inv) (n : Bool) : (fetchOperand n s).Inv :=
  h.congr rfl rfl rfl rfl rfl

theorem fetchOperands_inv (h : s.Inv) (n : Nat) : (fetchOperands n s).Inv := by
  obtain ⟨_, _, e⟩ := fetchOperands_spec n s
  rw [e]
  exact h.congr rfl rfl rfl rfl rfl

theorem fetchCode_inv (h : s.Inv) (done : Nat) (c : Code) : (fetchCode done c s).Inv := by
  unfold fetchCode
  split
  · exact fetchOperand_inv (fetchOperand_inv (fetchM1s_inv h _) _) _
  · exact fetchOperands_inv (fetchM1s_inv h _) _

theorem continueDecode_inv {pfx : List Byte} (h : continueDecode pfx s = .next t) (hs : s.Inv) : t.Inv := by
  unfold continueDecode at h
  split at h
  · exact (execRow_confined h).inv (fetchCode_inv hs _ _)
  · cases h

theorem exec_inv {i : Instr} (h : exec i s = .next t) (hs : s.Inv) : t.Inv := by
  obtain e | ⟨_, e⟩ := exec_eq_execRow_or_continueDecode i s
  · exact (execRow_confined (e ▸ h)).inv hs
  · exact continueDecode_inv (e ▸ h) hs

theorem executeInstruction_inv (h : executeInstruction s = .next t) (hs : s.Inv) : t.Inv := by
  unfold executeInstruction at h
  split at h
  · exact exec_inv h (fetchCode_inv hs _ _)
  · cases h

theorem executePhase_inv {accepted : Bool} (h : executePhase accepted s = .next t) (hs : s.Inv) : t.Inv := by
  unfold executePhase at h
  dsimp only at h
  split at h
  · cases h; exact hs.congr rfl rfl rfl rfl rfl
  · exact executeInstruction_inv h (hs.congr rfl rfl rfl rfl rfl)

/-! ## Taking an interrupt -/

theorem enterHandler_inv {target : State → Word × State} (ht : ∀ u, u.Inv → (target u).2.Inv) (cost : Nat)
    (hs : s.Inv) : (enterHandler target cost s).Inv :=
  (ht _ (push16_inv hs s.pc)).congr rfl rfl rfl rfl rfl

theorem acceptNmi_inv (hs : s.Inv) : (acceptNmi s).Inv :=
  enterHandler_inv (fun _ hu => hu.congr rfl rfl rfl rfl rfl) _ (hs.congr rfl rfl rfl rfl rfl)

theorem acceptIm1_inv (hs : s.Inv) : (acceptIm1 s).Inv :=
  enterHandler_inv (fun _ hu => hu) _ hs

theorem acceptIm2_inv (hs : s.Inv) (v : Byte) : (acceptIm2 v s).Inv :=
  enterHandler_inv (fun _ hu => hu.congr rfl rfl rfl rfl rfl) _ hs

theorem acceptSource_inv (hs : s.Inv) (id : SourceId) : (acceptSource id s).2.Inv :=
  sourceAccept_inv (s := { acknowledge s with iff1 := false, iff2 := false }) (hs.congr rfl rfl rfl rfl rfl) id

theorem acceptIm0_inv {v : Byte} (h : acceptIm0 v s = .next t) (hs : s.Inv) : t.Inv := by
  unfold acceptIm0 at h
  split at h
  · exact (execBaseRow_confined h).inv (hs.congr rfl rfl rfl rfl rfl)
  · cases h

theorem acceptInt_inv {id : SourceId} (h : acceptInt id s = .next t) (hs : s.Inv) : t.Inv := by
  have ha := acceptSource_inv hs id
  unfold acceptInt at h
  dsimp only at h
  split at h
  · exact acceptIm0_inv h ha
  · cases h; exact acceptIm1_inv ha
  · cases h; exact acceptIm2_inv ha _

theorem interruptPhase_inv (h : (interruptPhase s).2 = .next t) (hs : s.Inv) : t.Inv := by
  have he : State.Inv { s with eidi := false } := hs.congr rfl rfl rfl rfl rfl
  unfold interruptPhase at h
  split at h
  · cases h; exact hs
  · dsimp only at h
    split at h
    · cases h; exact acceptNmi_inv he
    · split at h
      · cases h; exact he
      · split at h
        · split at h
          · exact acceptInt_inv h he
          · cases h; exact he
        · cases h; exact he

/-! ## The iteration and the host's interactions -/

/-- The cumulative counter is a remainder by the wrap threshold, which the invariant before makes positive. -/
theorem closeIteration_inv (h : closeIteration s = .next t) (hs : s.Inv) : t.Inv := by
  unfold closeIteration at h
  dsimp only at h
  split at h
  next hu =>
    cases h
    exact tickChips_inv hu { hs with counter := Nat.mod_lt _ (Nat.zero_lt_of_lt hs.counter) }
  · cases h

theorem iteration_inv (h : iteration s = .next t) (hs : s.Inv) : t.Inv := by
  obtain ⟨u, hu, h⟩ := andThen_next.1 h
  obtain ⟨v, hv, h⟩ := andThen_next.1 h
  have hiu : u.Inv := interruptPhase_inv hu (hs.congr rfl rfl rfl rfl rfl)
  exact closeIteration_inv h (executePhase_inv hv hiu)

theorem hostWrite8_inv (hs : s.Inv) (reg : NamedReg8) (v : Byte) : (hostWrite8 reg v s).Inv := by
  cases reg <;> exact hs.congr rfl rfl rfl rfl rfl

theorem hostWrite16_inv (hs : s.Inv) (reg : NamedReg16) (v : Word) : (hostWrite16 reg v s).Inv := by
  cases reg <;> exact hs.congr rfl rfl rfl rfl rfl

theorem hostWriteFlag_inv (hs : s.Inv) (f : NamedFlag) (v : Bool) : (hostWriteFlag f v s).Inv := by
  cases f <;> exact hs.congr rfl rfl rfl rfl rfl

theorem hostPutIn_inv (hs : s.Inv) (k : Nat) (x : PortId) (v : Byte) : (hostPutIn k x v s).Inv := by
  unfold hostPutIn
  split
  next hq => exact hs.setPio (Pio.putIn_good (hs.pio_good hq) x v)
  · exact hs

theorem hostFetchOut_inv (hs : s.Inv) (k : Nat) (x : PortId) : (hostFetchOut k x s).Inv := by
  unfold hostFetchOut
  split
  next hq => exact (hs.setPio (k := k) (Pio.fetchOut_good (hs.pio_good hq) x)).congr rfl rfl rfl rfl rfl
  · exact hs

theorem hostEvent_inv {e : HostEvent} (h : hostEvent e s = some t) (hs : s.Inv) : t.Inv := by
  cases e with
  | ctcLevel k n l => exact ctcOp_inv (op := fun w x => Ctc.setLevel w n l x) (fun _ _ _ => Ctc.setLevel_good) h hs
  | ctcPulse k n => exact ctcOp_inv (op := fun w x => Ctc.pulse w n x) (fun _ _ _ => Ctc.pulse_good) h hs
  | pioPutIn => cases h; exact hostPutIn_inv hs ..
  | pioFetchOut => cases h; exact hostFetchOut_inv hs ..
  | writeReg8 => cases h; exact hostWrite8_inv hs ..
  | writeReg16 => cases h; exact hostWrite16_inv hs ..
  | writeFlag => cases h; exact hostWriteFlag_inv hs ..
  | writeMem => cases h; exact hs.writeMem ..
  | reset => cases h; exact resetMachine_inv hs ..
  | fireNmi | addWait | writeIm | stop => cases h; exact hs.congr rfl rfl rfl rfl rfl

theorem hostEvents_inv {es : List HostEvent} (h : hostEvents es s = some t) (hs : s.Inv) : t.Inv := by
  induction es generalizing s with
  | nil => cases h; exact hs
  | cons e es ih =>
    obtain ⟨u, hu, h⟩ := Option.bind_eq_some_iff.1 h
    exact ih h (hostEvent_inv hu hs)

theorem hostPhase_inv (h : hostPhase s = some t) (hs : s.Inv) : t.Inv := by
  unfold hostPhase at h
  split at h
  · cases h; exact hs
  · exact hostEvents_inv h (hs.congr rfl rfl rfl rfl rfl)

end

/-- Settles O3: the host's interactions keep the invariant, and so does the iteration after them. -/
theorem stepKeepsInvariant : Obligations.StepKeepsInvariant := by
  intro s t hs h
  unfold step hostThenIteration at h
  split at h
  next hu => exact iteration_inv h (hostPhase_inv hu hs)
  · cases h

end Sys2Proof.Machine

/-! SUPPORT. Memory and port accesses (spec/20_memory.md R61, R66, R69, R73, R79): what a read and a write do, a pop
after a push, and what each port target answers. -/

namespace Sys2Proof.Machine

open Sys2Proof.Claim

/-! ## Memory -/

/-- `MemRead(a, 1)`, its event included (R61, R69, R73). -/
theorem memRead_spec (a : Word) (s : State) :
    memRead a s =
      (peek s a,
        { s with
          draws := s.draws + drawsOf s a
          trace := .access { kind := .read, addr := a, value := peek s a, notified := true } :: s.trace }) := rfl

/-- `MemWrite(a, 1, v)` changes memory and adds its event (R61, R73). -/
theorem memWrite_spec (a : Word) (v : Byte) (s : State) :
    memWrite a v s =
      { s with
        mem := (memWrite a v s).mem
        trace := .access { kind := .write, addr := a, value := v, notified := true } :: s.trace } :=
  (writeAs_state true a v s).trans (by rw [writeAs_trace]; rfl)

/-- What RAM holds is the byte stored, whatever has been drawn (R69). -/
theorem heldByte_of_ram {s : State} {a : Word} (h : memKind s.platform a = .ram) (d : Nat) :
    heldByte s d a = stored s a := by
  simp [heldByte, h]

/-- Settles O4: a read by its equation, a write by `stored_memWrite`; the byte just written in RAM is the byte held. -/
theorem memoryAccess : Obligations.MemoryAccess := by
  intro s a v hm
  refine ⟨fun _ => rfl, rfl, rfl, ⟨rfl, fun _ => rfl, congrArg Prod.snd (memRead_spec a s)⟩,
    fun b => stored_memWrite hm a b v, memWrite_wf a v hm, memWrite_spec a v s, fun hram => ?_⟩
  have hram' : memKind (memWrite a v s).platform a = .ram := by rwa [memWrite_platform]
  calc (memRead a (memWrite a v s)).1
      = stored (memWrite a v s) a := heldByte_of_ram hram' _
    _ = v := by rw [stored_memWrite hm, if_pos ⟨rfl, hram⟩]

/-! ## The stack -/

theorem exec_pushQ (q : StackPair) (s : State) :
    exec (.pushQ q) s = .next (charge (s.cost (.pushQ q) 11) (push16 (s.getStackPair q) s)) := rfl

theorem exec_popQ (q : StackPair) (s : State) :
    exec (.popQ q) s = .next (charge (s.cost (.popQ q) 10) ((pop16 s).2.setStackPair q (pop16 s).1)) := rfl

@[simp] theorem push16_regs (v : Word) (s : State) :
    (push16 v s).regs = { s.regs with sp := s.regs.sp - 2 } :=
  (congrArg State.regs (push16_state v s) :)

@[simp] theorem push16_flags (v : Word) (s : State) : (push16 v s).flags = s.flags :=
  (congrArg State.flags (push16_state v s) :)

@[simp] theorem pop16_regs (s : State) : (pop16 s).2.regs = { s.regs with sp := s.regs.sp + 2 } := rfl

@[simp] theorem pop16_flags (s : State) : (pop16 s).2.flags = s.flags := rfl

section

variable {s t : State}

/-- `Pop16()` from RAM gives the two bytes stored there (R62, R79). -/
theorem pop16_of_ram (hlo : memKind s.platform s.regs.sp = .ram) (hhi : memKind s.platform (s.regs.sp + 1) = .ram) :
    (pop16 s).1 = mkWord (stored s (s.regs.sp + 1)) (stored s s.regs.sp) := by
  rw [pop16_spec, peek, heldByte_of_ram hlo, heldByte_of_ram hhi]

/-- `Pop16()` gives back the word that `Push16(v)` stored in RAM, whatever T-states are charged between them (R79). -/
theorem pop16_push16 (hm : s.mem.wf = true) (hhi : memKind s.platform (s.regs.sp - 1) = .ram)
    (hlo : memKind s.platform (s.regs.sp - 2) = .ram) (n : Nat) (v : Word) :
    (pop16 (charge n (push16 v s))).1 = v := by
  have e : s.regs.sp - 2 + 1 = s.regs.sp - 1 := by bv_omega
  have hne : s.regs.sp - 2 ≠ s.regs.sp - 1 := by bv_omega
  have high : stored (push16 v s) (s.regs.sp - 1) = hiByte v := by
    rw [stored_push16 hm, e, if_pos ⟨rfl, hhi⟩]
  have low : stored (push16 v s) (s.regs.sp - 2) = loByte v := by
    rw [stored_push16 hm, e, if_neg fun h => hne h.1, if_pos ⟨rfl, hlo⟩]
  have sp : (charge n (push16 v s)).regs.sp = s.regs.sp - 2 := by simp
  rw [pop16_of_ram (by simpa [sp] using hlo) (by simpa only [sp, e, charge_platform, push16_platform] using hhi), sp, e]
  calc mkWord (stored (push16 v s) (s.regs.sp - 1)) (stored (push16 v s) (s.regs.sp - 2))
      = mkWord (hiByte v) (loByte v) := by rw [high, low]
    _ = v := mkWord_hi_lo v

/-- A stack pair is part of the registers and the flags. -/
theorem getStackPair_congr (hr : t.regs = s.regs) (hf : t.flags = s.flags) (q : StackPair) :
    t.getStackPair q = s.getStackPair q := by
  cases q <;> simp [State.getStackPair, hr, hf]

/-- Loading a stack pair with the value that it has changes no register and no flag. -/
theorem setStackPair_getStackPair (hr : t.regs = s.regs) (hf : t.flags = s.flags) (q : StackPair) :
    (t.setStackPair q (s.getStackPair q)).regs = s.regs ∧ (t.setStackPair q (s.getStackPair q)).flags = s.flags := by
  cases q with
  | af => simp [State.setStackPair, State.getStackPair, State.setA, State.withRegs, State.withFlags, hr, unpack_pack]
  | _ => simp [State.setStackPair, State.getStackPair, State.withRegs, hr, hf]

end

/-- Settles O32: POP finds the pair that PUSH stored, and SP back where it was. -/
theorem pushThenPop : Obligations.PushThenPop := by
  intro s t u q hm hhi hlo ht hu
  rw [exec_pushQ] at ht
  cases ht
  rw [exec_popQ] at hu
  cases hu
  rw [pop16_push16 hm hhi hlo]
  obtain ⟨hregs, hflags⟩ := setStackPair_getStackPair (s := s)
    (t := (pop16 (charge (s.cost (.pushQ q) 11) (push16 (s.getStackPair q) s))).2) (by simp) (by simp) q
  exact ⟨getStackPair_congr hregs hflags q, congrArg Regs.sp hregs, hregs, hflags⟩

/-! ## Ports -/

section

variable {s : State} {p : Word} {v : Byte} {k : Nat} {n : Chan} {x : PortId} {c : Ctc} {q : Pio}

theorem portRead_ctc (ht : portTarget s.platform p = some (.ctc k n)) (hk : s.ctcs[k]? = some c) :
    portRead p s = (c.read n, s) := by
  simp [portRead, ht, hk]

theorem portWrite_ctc (ht : portTarget s.platform p = some (.ctc k n)) (hk : s.ctcs[k]? = some c) :
    portWrite p v s = { s with ctcs := s.ctcs.set k (c.write n v) } := by
  simp [portWrite, ht, hk]

theorem portRead_pioData (ht : portTarget s.platform p = some (.pioData k x)) (hk : s.pios[k]? = some q) :
    portRead p s = ((q.dataRead x).1, { s with pios := s.pios.set k (q.dataRead x).2 }) := by
  simp [portRead, ht, hk]

theorem portWrite_pioData (ht : portTarget s.platform p = some (.pioData k x)) (hk : s.pios[k]? = some q) :
    portWrite p v s = { s with pios := s.pios.set k (q.dataWrite x v) } := by
  simp [portWrite, ht, hk]

theorem portRead_pioControl (ht : portTarget s.platform p = some (.pioControl k x)) (hk : s.pios[k]? = some q) :
    portRead p s = drawByte s := by
  simp [portRead, ht, hk]

theorem portWrite_pioControl (ht : portTarget s.platform p = some (.pioControl k x)) (hk : s.pios[k]? = some q) :
    portWrite p v s = { s with pios := s.pios.set k (q.controlWrite x v) } := by
  simp [portWrite, ht, hk]

theorem portRead_device (ht : portTarget s.platform p = some .device) : portRead p s = drawByte s := by
  simp [portRead, ht]

theorem portWrite_device (ht : portTarget s.platform p = some .device) : portWrite p v s = s := by
  simp [portWrite, ht]

/-- No device answers a port exactly when PORT_MAP names no target or one on an absent chip (R66). -/
theorem answers_eq_false_iff :
    answers s p = false ↔
      portTarget s.platform p = none ∨
      (∃ k n, portTarget s.platform p = some (.ctc k n) ∧ s.ctcs[k]? = none) ∨
      ∃ k x, (portTarget s.platform p = some (.pioData k x) ∨ portTarget s.platform p = some (.pioControl k x)) ∧
        s.pios[k]? = none := by
  unfold answers
  cases portTarget s.platform p with
  | none => simp
  | some target => cases target <;> simp

theorem portRead_of_not_answers (h : answers s p = false) : portRead p s = unanswered s := by
  obtain ht | ⟨k, n, ht, hk⟩ | ⟨k, x, ht | ht, hk⟩ := answers_eq_false_iff.1 h <;>
    simp [portRead, *]

theorem portWrite_of_not_answers (h : answers s p = false) : portWrite p v s = s := by
  obtain ht | ⟨k, n, ht, hk⟩ | ⟨k, x, ht | ht, hk⟩ := answers_eq_false_iff.1 h <;>
    simp [portWrite, *]

end

@[simp] theorem ioRead_value (p : Word) (s : State) : (ioRead p s).1 = (portRead p s).1 := rfl
@[simp] theorem ioRead_draws (p : Word) (s : State) : (ioRead p s).2.draws = (portRead p s).2.draws := rfl
@[simp] theorem ioRead_pios (p : Word) (s : State) : (ioRead p s).2.pios = (portRead p s).2.pios := rfl
@[simp] theorem ioWrite_ctcs (p : Word) (v : Byte) (s : State) : (ioWrite p v s).ctcs = (portWrite p v s).ctcs := rfl
@[simp] theorem ioWrite_pios (p : Word) (v : Byte) (s : State) : (ioWrite p v s).pios = (portWrite p v s).pios := rfl

/-- `IoRead(p)` changes only the PIO chips, the count of free values and the trace (R65, R66). -/
theorem ioRead_state (p : Word) (s : State) :
    (ioRead p s).2 =
      { s with pios := (ioRead p s).2.pios, draws := (ioRead p s).2.draws, trace := (ioRead p s).2.trace } :=
  congrArg (fun u : State => { u with trace := (ioRead p s).2.trace }) (portRead_state p s)

/-- `IoWrite(p, v)` changes only the chips and the trace (R65, R66). -/
theorem ioWrite_state (p : Word) (v : Byte) (s : State) :
    ioWrite p v s =
      { s with ctcs := (ioWrite p v s).ctcs, pios := (ioWrite p v s).pios, trace := (ioWrite p v s).trace } :=
  congrArg (fun u : State => { u with trace := (ioWrite p v s).trace }) (portWrite_state p v s)

/-- Settles O53: the two frames, then a read and a write by what PORT_MAP selects. -/
theorem portAccess : Obligations.PortAccess := by
  intro s p v
  simp only [ioRead_value, ioRead_draws, ioRead_pios, ioWrite_ctcs, ioWrite_pios]
  refine ⟨ioRead_state p s, ioWrite_state p v s, fun k n c ht hk => ?ctc, fun k x q ht hk => ?pioData,
    fun k x q ht hk => ?pioControl, fun ht => ?device, fun h => ?unanswered⟩
  case ctc =>
    rw [portRead_ctc ht hk, portWrite_ctc ht hk]
    exact ⟨BitVec.toNat_ofNat _ 8, rfl, rfl, rfl, rfl⟩
  case pioData =>
    rw [portRead_pioData ht hk, portWrite_pioData ht hk]
    exact ⟨rfl, rfl, rfl, rfl, rfl⟩
  case pioControl =>
    rw [portRead_pioControl ht hk, portWrite_pioControl ht hk]
    exact ⟨rfl, rfl, rfl, rfl, rfl⟩
  case device =>
    rw [portRead_device ht, portWrite_device ht]
    exact ⟨rfl, rfl, rfl, rfl, rfl⟩
  case unanswered =>
    rw [portRead_of_not_answers h, portWrite_of_not_answers h]
    cases hu : s.platform.ioUnmapped <;> simp [unanswered, hu, drawByte]

end Sys2Proof.Machine

/-! SUPPORT. The decoder and the encoder (spec/30_encoding.md R90 to R120). Page by page, what the decoder answers for
an opcode is a row with exactly the bytes read, and the decoder gives back every row from its bytes. -/

namespace Sys2Proof.Machine

/-! ## Bit fields -/

/-- A bit vector is one of the numbers below its bound, so that `interval_cases` can list its values. -/
theorem exists_ofNat_eq {w : Nat} (v : BitVec w) : ∃ n < 2 ^ w, v = BitVec.ofNat w n :=
  ⟨v.toNat, v.isLt, by simp⟩

/-- The eight values of a 3-bit field (R92). -/
theorem bits3_cases {P : BitVec 3 → Prop} (h0 : P 0) (h1 : P 1) (h2 : P 2) (h3 : P 3) (h4 : P 4) (h5 : P 5)
    (h6 : P 6) (h7 : P 7) (b : BitVec 3) : P b := by
  obtain ⟨n, hn, rfl⟩ := exists_ofNat_eq b
  interval_cases n <;> assumption

/-! ## The bytes that begin a page -/

/-- The byte begins a page (R102, R108, R109). -/
def prefixByte (op : Byte) : Bool := op == 0xCB || op == 0xED || op == 0xDD || op == 0xFD

section

variable {op : Byte} {bs rest : List Byte} {x : Index} {i : Instr}

theorem prefixByte_iff : prefixByte op = true ↔ op = 0xCB ∨ op = 0xED ∨ op = 0xDD ∨ op = 0xFD := by
  simp [prefixByte, or_assoc]

theorem byte_cases (op : Byte) : op = 0xCB ∨ op = 0xED ∨ op = 0xDD ∨ op = 0xFD ∨ prefixByte op = false := by
  cases h : prefixByte op with
  | false => simp
  | true =>
    have := prefixByte_iff.1 h
    tauto

theorem toNat_ne_of_not_prefixByte (h : prefixByte op = false) :
    op.toNat ≠ 0xCB ∧ op.toNat ≠ 0xED ∧ op.toNat ≠ 0xDD ∧ op.toNat ≠ 0xFD := by
  simpa [prefixByte, ← BitVec.toNat_inj, and_assoc] using h

theorem decode_of_not_prefixByte (h : prefixByte op = false) (bs : List Byte) :
    decode (op :: bs) = decodeBase op bs := by
  have := toNat_ne_of_not_prefixByte h
  unfold decode
  split <;> simp_all

theorem decodeAfterIndex_of_some {d : Decoded} (h : prefixByte op = false) (hd : decodeIndexed x op bs = some d) :
    decodeAfterIndex x (op :: bs) = d := by
  have := toNat_ne_of_not_prefixByte h
  unfold decodeAfterIndex
  split <;> simp_all

theorem decodeAfterIndex_of_base_ok (h : prefixByte op = false) (hn : decodeIndexed x op bs = none)
    (hb : decodeBase op bs = .ok i rest) :
    decodeAfterIndex x (op :: bs) = .ok (x.sel (Instr.ddIgnored i) (Instr.fdIgnored i)) rest := by
  have := toNat_ne_of_not_prefixByte h
  unfold decodeAfterIndex
  split <;> simp_all

theorem decodeAfterIndex_of_base_error {e : DecodeError} (h : prefixByte op = false)
    (hn : decodeIndexed x op bs = none) (hb : decodeBase op bs = .error e) :
    decodeAfterIndex x (op :: bs) = .error e := by
  have := toNat_ne_of_not_prefixByte h
  unfold decodeAfterIndex
  split <;> simp_all

end

/-! ## Operand bytes -/

/-- The answer `d` on the bytes `bs` takes no operand byte from them, one, a word or two, and `P` holds of the bytes
taken and the instruction (R99 to R101). -/
inductive Reads (bs : List Byte) (P : List Byte → Instr → Prop) : Decoded → Prop where
  | ok {i : Instr} (h : P [] i) : Reads bs P (.ok i bs)
  | byte {k : Byte → Instr} (h : ∀ n, P [n] (k n)) : Reads bs P (takeByte bs k)
  | word {k : Word → Instr} (h : ∀ nn, P [loByte nn, hiByte nn] (k nn)) : Reads bs P (takeWord bs k)
  | two {k : Byte → Byte → Instr} (h : ∀ d n, P [d, n] (k d n)) : Reads bs P (takeTwo bs k)

section

variable {bs rest : List Byte} {P : List Byte → Instr → Prop} {d : Decoded} {i : Instr}

theorem Reads.ok_spec (h : Reads bs P d) (hd : d = .ok i rest) : ∃ operand, bs = operand ++ rest ∧ P operand i := by
  cases h with
  | ok h =>
    cases hd
    exact ⟨[], rfl, h⟩
  | byte h =>
    match bs, hd with
    | n :: _, hd =>
      cases hd
      exact ⟨[n], rfl, h n⟩
  | word h =>
    match bs, hd with
    | lo :: hi :: _, hd =>
      cases hd
      exact ⟨_, by simp, h (mkWord hi lo)⟩
  | two h =>
    match bs, hd with
    | d :: n :: _, hd =>
      cases hd
      exact ⟨[d, n], rfl, h d n⟩

/-- No operand is longer than two bytes. -/
theorem Reads.total (h : Reads bs P d) (hbs : 2 ≤ bs.length) : ∃ i rest, d = .ok i rest := by
  match bs, hbs with
  | _ :: _ :: _, _ => cases h <;> exact ⟨_, _, rfl⟩

theorem Reads.imp {Q : List Byte → Instr → Prop} (hPQ : ∀ operand i, P operand i → Q operand i)
    (h : Reads bs P d) : Reads bs Q d := by
  cases h with
  | ok h => exact .ok (hPQ _ _ h)
  | byte h => exact .byte fun n => hPQ _ _ (h n)
  | word h => exact .word fun nn => hPQ _ _ (h nn)
  | two h => exact .two fun d n => hPQ _ _ (h d n)

theorem takeWord_lo_hi (nn : Word) (k : Word → Instr) (rest : List Byte) :
    takeWord (loByte nn :: hiByte nn :: rest) k = .ok (k nn) rest := by
  simp [takeWord]

end

/-! ## From the opcode to the row

Opcode by opcode of a page, the decoder's branch and the bytes of the row that it answers are computed; the operand
bytes stay open. -/

/-- `i` is a row with these opcode and operand bytes, and not one that only begins a page. -/
structure Row (opcode operand : List Byte) (i : Instr) : Prop where
  bytes : encode i = opcode ++ operand
  wf : i.wellFormed = true
  prefixRow : i.isPrefixRow = false

/-- `i` is the base-page row of the opcode `op` with these operand bytes. A DD or FD byte before it is ignored just
where the index page has no row of its own for the opcode (R105). -/
structure BaseRow (op : Byte) (bs operand : List Byte) (i : Instr) : Prop where
  code : i.code = i.codeBase
  m1 : i.codeBase.m1 = [op]
  operand : i.codeBase.operand = operand
  wf : i.wellFormed = true
  prefixRow : i.isPrefixRow = prefixByte op
  ignores : ∀ x, i.ignoresIndex = ((decodeIndexed x op bs).isNone && !prefixByte op)

/-- The base page (R118). -/
theorem decodeBase_reads (op : Byte) (bs : List Byte) : Reads bs (BaseRow op bs) (decodeBase op bs) := by
  obtain ⟨n, hn, rfl⟩ := exists_ofNat_eq op
  interval_cases n <;> constructor <;> intros <;> exact ⟨rfl, rfl, rfl, rfl, rfl, fun _ => rfl⟩

/-- The CB page (R109). -/
theorem decodeCb_row (op : Byte) (bs : List Byte) : ∃ i, decodeCb op bs = .ok i bs ∧ Row [0xCB, op] [] i := by
  obtain ⟨n, hn, rfl⟩ := exists_ofNat_eq op
  interval_cases n <;> exact ⟨_, rfl, rfl, rfl, rfl⟩

/-- The ED page (R119). -/
theorem decodeEd_reads (op : Byte) (bs : List Byte) : Reads bs (Row [0xED, op]) (decodeEd op bs) := by
  obtain ⟨n, hn, rfl⟩ := exists_ofNat_eq op
  interval_cases n <;> constructor <;> intros <;> exact ⟨rfl, rfl, rfl⟩

/-- The DDCB and FDCB pages (R107). -/
theorem decodeXCb_row (x : Index) (d op : Byte) (bs : List Byte) :
    ∃ i, decodeXCb x d op bs = .ok i bs ∧ Row [x.sel 0xDD 0xFD, 0xCB] [d, op] i := by
  obtain ⟨n, hn, rfl⟩ := exists_ofNat_eq op
  cases x <;> interval_cases n <;> exact ⟨_, rfl, rfl, rfl, rfl⟩

/-- The DD and FD pages (R103, R104, R120). -/
theorem decodeIndexed_reads {x : Index} {op : Byte} {bs : List Byte} {d : Decoded}
    (h : decodeIndexed x op bs = some d) : Reads bs (Row [x.sel 0xDD 0xFD, op]) d := by
  obtain ⟨n, hn, rfl⟩ := exists_ofNat_eq op
  cases x <;> interval_cases n <;> cases h <;> constructor <;> intros <;> exact ⟨rfl, rfl, rfl⟩

section

variable {op : Byte} {bs operand : List Byte} {i : Instr}

theorem BaseRow.encode (h : BaseRow op bs operand i) : encode i = op :: operand := by
  rw [Sys2Proof.encode, h.code, h.m1, h.operand]
  rfl

theorem BaseRow.row (h : BaseRow op bs operand i) (hop : prefixByte op = false) : Row [op] operand i :=
  ⟨h.encode, h.wf, h.prefixRow.trans hop⟩

theorem encode_ignored (x : Index) (i : Instr) :
    encode (x.sel (Instr.ddIgnored i) (Instr.fdIgnored i)) =
      x.sel 0xDD 0xFD :: (i.codeBase.m1 ++ i.codeBase.operand) := by
  cases x <;> rfl

/-- A base-page row after an ignored DD or FD byte (R105). -/
theorem BaseRow.ignored (h : BaseRow op bs operand i) (hi : i.ignoresIndex = true) (x : Index) :
    Row [x.sel 0xDD 0xFD, op] operand (x.sel (Instr.ddIgnored i) (Instr.fdIgnored i)) where
  bytes := by
    rw [encode_ignored, h.m1, h.operand]
    rfl
  wf := by cases x <;> exact hi
  prefixRow := by cases x <;> rfl

end

/-! ## From the row to the opcode: the base page -/

section

variable {i : Instr} {op : Byte}

/-- A row has no base-page opcode or one. -/
theorem codeBase_m1_cases (i : Instr) : i.codeBase.m1 = [] ∨ ∃ op, i.codeBase.m1 = [op] := by
  have h : i.codeBase.m1 = i.codeBase.m1.head?.toList := by cases i <;> rfl
  rw [h]
  cases i.codeBase.m1.head? <;> simp

/-- The base page's decoder gives back a row from its opcode and operand bytes (R118). -/
theorem decodeBase_codeBase (hm : i.codeBase.m1 = [op]) (rest : List Byte) :
    decodeBase op (i.codeBase.operand ++ rest) = .ok i rest := by
  cases i with
  | incP p | addHlP p | decP p | ldAtPpA p | ldAAtPp p => cases hm; cases p <;> rfl
  | popQ q | pushQ q => cases hm; cases q <;> rfl
  | jrC cc | retC cc => cases hm; cases cc <;> rfl
  | incR r | decR r | ldRN r | ldRAtHl r | ldAtHlS r | addS r | adcS r | subS r | sbcS r | andS r | xorS r | orS r
  | cpS r => cases hm; cases r <;> rfl
  | ldRS r r2 => cases hm; cases r <;> cases r2 <;> rfl
  | rst k => cases hm; cases k using bits3_cases <;> rfl
  | ldPNn p nn => cases hm; cases p <;> exact takeWord_lo_hi ..
  | jpC cc nn | callC cc nn => cases hm; cases cc <;> exact takeWord_lo_hi ..
  | ldAtNnHl | ldHlAtNn | ldAtNnA | ldAAtNn | jp | call => cases hm; exact takeWord_lo_hi ..
  | _ => cases hm <;> rfl

theorem baseRow_of_codeBase (hm : i.codeBase.m1 = [op]) (rest : List Byte) :
    BaseRow op (i.codeBase.operand ++ rest) i.codeBase.operand i := by
  obtain ⟨operand, ho, hrow⟩ := (decodeBase_reads op _).ok_spec (decodeBase_codeBase hm rest)
  exact List.append_cancel_right ho ▸ hrow

theorem decode_encode_base (hm : i.codeBase.m1 = [op]) (hp : i.isPrefixRow = false) (rest : List Byte) :
    decode (encode i ++ rest) = .ok i rest := by
  have hrow := baseRow_of_codeBase hm rest
  rw [hrow.encode, List.cons_append, decode_of_not_prefixByte (hrow.prefixRow.symm.trans hp)]
  exact decodeBase_codeBase hm rest

theorem lookahead_of_codeBase (hm : i.codeBase.m1 = [op]) : i.lookahead = [] := by
  cases i with
  | ddThenDd | ddThenFd | ddThenEd | fdThenDd | fdThenFd | fdThenEd => cases hm
  | _ => rfl

theorem ignoresIndex_spec (hi : i.ignoresIndex = true) : (∃ op, i.codeBase.m1 = [op]) ∧ i.isPrefixRow = false := by
  refine ⟨List.length_eq_one_iff.1 (Laws.EncodeLength.ignoresIndex_length hi).1, ?_⟩
  cases i with
  | prefixCb | prefixDd | prefixEd | prefixFd | prefixDdCb | prefixFdCb => cases hi
  | _ => rfl

/-- The decoder gives back a base-page row after an ignored DD or FD byte: the index page has no row for its opcode
(R105). -/
theorem decode_encode_ignored (x : Index) (hi : i.ignoresIndex = true) (rest : List Byte) :
    decode (encode (x.sel (Instr.ddIgnored i) (Instr.fdIgnored i)) ++ rest) =
      .ok (x.sel (Instr.ddIgnored i) (Instr.fdIgnored i)) rest := by
  obtain ⟨⟨op, hm⟩, -⟩ := ignoresIndex_spec hi
  have hrow := (baseRow_of_codeBase hm rest).ignores x
  simp only [hi, Bool.true_eq, Bool.and_eq_true, Option.isNone_iff_eq_none, Bool.not_eq_true'] at hrow
  obtain ⟨hn, hop⟩ := hrow
  have hd := decodeAfterIndex_of_base_ok hop hn (decodeBase_codeBase hm rest)
  rw [encode_ignored, hm]
  cases x <;> exact hd

/-! ## From the row to the opcode: the other pages -/

/-- An ED opcode that has no row of its own is a NOP (R119, 44_general.md R262). -/
theorem decodeEd_of_undefined (h : edUndefined op = true) (bs : List Byte) : decodeEd op bs = .ok (.nopEd op) bs := by
  unfold decodeEd
  split
  case h_17 =>
    split
    next hx =>
      have hop : op = 0x77 ∨ op = 0x7F := by
        simp only [edUndefined, Bool.or_eq_true, Bool.and_eq_true, decide_eq_true_eq, beq_iff_eq] at h
        simp only [opX] at hx
        bv_omega
      obtain rfl | rfl := hop <;> rfl
    · rfl
  all_goals simp [edUndefined, *] at h

/-- The decoder gives back every row of the other pages, whatever its operands; its first bytes alone lead to the
page's own decoder. -/
theorem decode_encode_paged (hb : i.codeBase.m1 = []) (hwf : i.wellFormed = true) (hp : i.isPrefixRow = false)
    (rest : List Byte) : decode (encode i ++ i.lookahead ++ rest) = .ok i (i.lookahead ++ rest) := by
  cases i with
  -- the CB page (R109)
  | rlcR r | rrcR r | rlR r | rrR r | slaR r | sraR r | sllR r | srlR r =>
    change decodeCb _ rest = _
    cases r <;> rfl
  | bitAtHl b | resAtHl b | setAtHl b =>
    change decodeCb _ rest = _
    cases b using bits3_cases <;> rfl
  | bitR b r | resR b r | setR b r =>
    change decodeCb _ rest = _
    cases b using bits3_cases <;> cases r <;> rfl
  -- the ED page (R119)
  | sbcHlP p | adcHlP p => cases p <;> rfl
  | ldAtNnP p nn | ldPAtNn p nn => cases p <;> exact takeWord_lo_hi ..
  | inRC r | outCR r => cases r <;> rfl
  | neg b => cases b using bits3_cases <;> rfl
  | retn b => cases b using bits3_cases <;> cases hwf <;> rfl
  | im0 x1 x0 => cases x1 <;> cases x0 <;> rfl
  | im1 x1 | im2 x1 => cases x1 <;> rfl
  | nopEd op => exact decodeEd_of_undefined hwf rest
  -- the DD and FD pages (R105, R120)
  | ddIgnored base =>
    change decode (encode _ ++ [] ++ rest) = _
    rw [List.append_nil]
    exact decode_encode_ignored .ix hwf rest
  | fdIgnored base =>
    change decode (encode _ ++ [] ++ rest) = _
    rw [List.append_nil]
    exact decode_encode_ignored .iy hwf rest
  | addIxP p | addIyP p => cases p <;> rfl
  | ldIxNn | ldIyNn | ldAtNnIx | ldAtNnIy | ldIxAtNn | ldIyAtNn => exact takeWord_lo_hi ..
  | addIxHalf h | adcIxHalf h | subIxHalf h | sbcIxHalf h | andIxHalf h | xorIxHalf h | orIxHalf h | cpIxHalf h
  | addIyHalf h | adcIyHalf h | subIyHalf h | sbcIyHalf h | andIyHalf h | xorIyHalf h | orIyHalf h | cpIyHalf h =>
    cases h <;> rfl
  | ldRSIx r r2 | ldRSIy r r2 => cases r <;> cases r2 <;> cases hwf <;> rfl
  | ldRAtIx r | ldRAtIy r | ldAtIxS _ r | ldAtIyS _ r => cases r <;> rfl
  -- the DDCB and FDCB pages (R107)
  | rlcAtIxR _ r | rrcAtIxR _ r | rlAtIxR _ r | rrAtIxR _ r | slaAtIxR _ r | sraAtIxR _ r | sllAtIxR _ r | srlAtIxR _ r
  | rlcAtIyR _ r | rrcAtIyR _ r | rlAtIyR _ r | rrAtIyR _ r | slaAtIyR _ r | sraAtIyR _ r | sllAtIyR _ r
  | srlAtIyR _ r =>
    change decodeXCb _ _ _ rest = _
    cases r <;> rfl
  | resAtIx b | setAtIx b | resAtIy b | setAtIy b =>
    change decodeXCb _ _ _ rest = _
    cases b using bits3_cases <;> rfl
  | resAtIxR b _ r | setAtIxR b _ r | resAtIyR b _ r | setAtIyR b _ r =>
    change decodeXCb _ _ _ rest = _
    cases b using bits3_cases <;> cases r <;> rfl
  | bitAtIx b _ z | bitAtIy b _ z =>
    change decodeXCb _ _ _ rest = _
    cases b using bits3_cases <;> cases z using bits3_cases <;> rfl
  | prefixDdCb | prefixFdCb => cases hp
  | _ => cases hb <;> rfl

end

/-- Settles O6: a base-page row through the base page's decoder, every other row through its page's. -/
theorem decodeOfEncode : Obligations.DecodeOfEncode := by
  intro i rest hwf hp
  obtain hb | ⟨op, hm⟩ := codeBase_m1_cases i
  · exact decode_encode_paged hb hwf hp rest
  · rw [lookahead_of_codeBase hm, List.append_nil]
    exact decode_encode_base hm hp rest

/-- Settles O8: each line's bytes are the encoding of its instruction. -/
theorem decodeSpecWords : Obligations.DecodeSpecWords :=
  ⟨decodeOfEncode (.ldRN .b 0x12) [] rfl rfl, decodeOfEncode (.ldPNn .bc 0x1234) [] rfl rfl,
    decodeOfEncode (.ldAtIxN 0x01 0x5A) [] rfl rfl, decodeOfEncode (.bitAtIy 0 0x05 6) [] rfl rfl,
    decodeOfEncode .ldir [] rfl rfl, decodeOfEncode .reti [] rfl rfl,
    decodeOfEncode (.ddIgnored .exDeHl) [] rfl rfl, decodeOfEncode (.rst 7) [] rfl rfl,
    decodeOfEncode (.bitR 7 .a) [] rfl rfl⟩

/-! ## What the decoder accepts -/

/-- What is asked of the answer `d` on the bytes `bs`: a row with exactly the bytes read, and on four bytes or more a
row that does not only begin a page (R110). -/
structure Faithful (bs : List Byte) (d : Decoded) : Prop where
  sound : ∀ i rest, d = .ok i rest → i.wellFormed = true ∧ bs = encode i ++ rest
  total : 4 ≤ bs.length → ∃ i rest, d = .ok i rest ∧ i.isPrefixRow = false

section

variable {bs rest : List Byte} {i : Instr} {op : Byte}

theorem faithful_ok (hwf : i.wellFormed = true) (hbs : bs = encode i ++ rest)
    (hp : 4 ≤ bs.length → i.isPrefixRow = false) : Faithful bs (.ok i rest) where
  sound := by
    rintro _ _ ⟨⟩
    exact ⟨hwf, hbs⟩
  total h := ⟨i, rest, rfl, hp h⟩

theorem faithful_error {e : DecodeError} (h : bs.length < 4) : Faithful bs (.error e) where
  sound := by rintro _ _ ⟨⟩
  total hbs := absurd hbs (Nat.not_le_of_lt h)

theorem Row.faithful {opcode operand : List Byte} (h : Row opcode operand i) :
    Faithful (opcode ++ operand ++ bs) (.ok i bs) :=
  faithful_ok h.wf (by rw [h.bytes]) fun _ => h.prefixRow

theorem Reads.faithful {opcode : List Byte} {d : Decoded} (h : Reads bs (Row opcode) d) (ho : opcode.length ≤ 2) :
    Faithful (opcode ++ bs) d where
  sound i rest hd := by
    obtain ⟨operand, rfl, hrow⟩ := h.ok_spec hd
    exact ⟨hrow.wf, by rw [hrow.bytes, List.append_assoc]⟩
  total hbs := by
    rw [List.length_append] at hbs
    obtain ⟨i, rest, hd⟩ := h.total (by omega)
    obtain ⟨operand, -, hrow⟩ := h.ok_spec hd
    exact ⟨i, rest, hd, hrow.prefixRow⟩

theorem decodeBase_faithful (hop : prefixByte op = false) (bs : List Byte) :
    Faithful (op :: bs) (decodeBase op bs) := by
  have h : Reads bs (Row [op]) (decodeBase op bs) := (decodeBase_reads op bs).imp fun _ _ hrow => hrow.row hop
  exact h.faithful (Nat.le_succ 1)

theorem decodeCb_faithful (op : Byte) (bs : List Byte) : Faithful (0xCB :: op :: bs) (decodeCb op bs) := by
  obtain ⟨i, hd, hrow⟩ := decodeCb_row op bs
  exact hd ▸ hrow.faithful

theorem decodeXCb_faithful (x : Index) (d op : Byte) (bs : List Byte) :
    Faithful (x.sel 0xDD 0xFD :: 0xCB :: d :: op :: bs) (decodeXCb x d op bs) := by
  obtain ⟨i, hd, hrow⟩ := decodeXCb_row x d op bs
  exact hd ▸ hrow.faithful

/-- An opcode that the index page has no row for: the DD or FD byte before the base-page row is ignored (R105). -/
theorem decodeAfterIndex_faithful_of_none {x : Index} (hop : prefixByte op = false)
    (hx : decodeIndexed x op bs = none) : Faithful (x.sel 0xDD 0xFD :: op :: bs) (decodeAfterIndex x (op :: bs)) := by
  have hr := decodeBase_reads op bs
  cases hb : decodeBase op bs with
  | ok i rest =>
    obtain ⟨operand, rfl, hrow⟩ := hr.ok_spec hb
    have hi : i.ignoresIndex = true := by simp [hrow.ignores x, hx, hop]
    rw [decodeAfterIndex_of_base_ok hop hx hb]
    simpa using (hrow.ignored hi x).faithful (bs := rest)
  | error e =>
    rw [decodeAfterIndex_of_base_error hop hx hb]
    refine faithful_error (Nat.lt_of_not_le fun hl => ?_)
    obtain ⟨i, rest, hok⟩ := hr.total (Nat.le_of_add_le_add_right (b := 2) hl)
    cases hb.symm.trans hok

/-- After a DD or FD byte (R105, R106, R107). -/
theorem decodeAfterIndex_faithful (x : Index) (bs : List Byte) :
    Faithful (x.sel 0xDD 0xFD :: bs) (decodeAfterIndex x bs) := by
  match bs with
  | [] => cases x <;> exact faithful_ok rfl rfl (by decide)
  | op :: bs =>
    obtain rfl | rfl | rfl | rfl | hop := byte_cases op
    · match bs with
      | [] => cases x <;> exact faithful_ok rfl rfl (by decide)
      | [d] => exact faithful_error (Nat.lt_succ_self 3)
      | d :: op :: bs => exact decodeXCb_faithful x d op bs
    · cases x <;> exact faithful_ok rfl rfl fun _ => rfl
    · cases x <;> exact faithful_ok rfl rfl fun _ => rfl
    · cases x <;> exact faithful_ok rfl rfl fun _ => rfl
    · cases hx : decodeIndexed x op bs with
      | some d =>
        rw [decodeAfterIndex_of_some hop hx]
        exact (decodeIndexed_reads hx).faithful (Nat.le_refl 2)
      | none => exact decodeAfterIndex_faithful_of_none hop hx

/-- The decode procedure (R111), by the first byte. -/
theorem decode_faithful (bs : List Byte) : Faithful bs (decode bs) := by
  match bs with
  | [] => exact faithful_error (Nat.zero_lt_succ 3)
  | op :: bs =>
    obtain rfl | rfl | rfl | rfl | hop := byte_cases op
    · match bs with
      | [] => exact faithful_ok rfl rfl (by decide)
      | op :: bs => exact decodeCb_faithful op bs
    · match bs with
      | [] => exact faithful_ok rfl rfl (by decide)
      | op :: bs => exact (decodeEd_reads op bs).faithful (Nat.le_refl 2)
    · exact decodeAfterIndex_faithful .ix bs
    · exact decodeAfterIndex_faithful .iy bs
    · rw [decode_of_not_prefixByte hop]
      exact decodeBase_faithful hop bs

end

/-- Settles O7: both parts of `decode_faithful`. -/
theorem encodeOfDecode : Obligations.EncodeOfDecode :=
  ⟨fun bs => (decode_faithful bs).sound, fun _ _ _ _ => (decode_faithful _).total (Nat.le_refl 4)⟩

end Sys2Proof.Machine

/-! SUPPORT. The fetch of an instruction's bytes, and the rows that are prefixes (spec/30_encoding.md R102, R105 to
R112). -/

namespace Sys2Proof.Machine

/-! ## The bytes of a row -/

section

variable {i : Instr}

theorem codeBase_operand_length (h : i.codeBase.imm16 = true) : i.codeBase.operand.length = 2 := by
  cases i <;> cases h <;> rfl

/-- A 16-bit immediate is two operand bytes (R100). -/
theorem code_operand_length (h : i.code.imm16 = true) : i.code.operand.length = 2 := by
  cases i with
  | ddIgnored base | fdIgnored base => exact codeBase_operand_length (i := base) h
  | _ => cases h <;> rfl

theorem codeBase_operand_of_prefixRow (h : i.isPrefixRow = true) : i.codeBase.operand = [] := by
  cases i <;> cases h <;> rfl

/-- A row of another page has two opcode bytes, its page's first; a step of a chain of prefixes is one byte (R106). -/
theorem m1_length_paged (hb : i.codeBase.m1 = []) (hwf : i.wellFormed = true) {b : Byte} {rest : List Byte}
    (h : encode i = b :: rest) : prefixByte b = true ∧ i.code.m1.length = if rest = [] then 1 else 2 := by
  cases i with
  | ddIgnored base | fdIgnored base =>
    obtain ⟨⟨op, hm⟩, -⟩ := ignoresIndex_spec hwf
    cases h
    refine ⟨rfl, ?_⟩
    change base.codeBase.m1.length + 1 = if base.codeBase.m1 ++ base.codeBase.operand = [] then 1 else 2
    rw [hm]
    rfl
  | _ => cases hb <;> cases h <;> exact ⟨rfl, rfl⟩

/-- The count of opcode bytes, by the first byte (R112). -/
theorem m1_length (hwf : i.wellFormed = true) {b : Byte} {rest : List Byte} (h : encode i = b :: rest) :
    i.code.m1.length = if prefixByte b = true then (if rest = [] then 1 else 2) else 1 := by
  obtain hb | ⟨op, hm⟩ := codeBase_m1_cases i
  · obtain ⟨hp, hl⟩ := m1_length_paged hb hwf h
    rw [hl, if_pos hp]
  · have hrow := baseRow_of_codeBase hm []
    obtain ⟨rfl, rfl⟩ := List.cons.inj (h.symm.trans hrow.encode)
    rw [hrow.code, hm]
    split
    next hp => simp [codeBase_operand_of_prefixRow (hrow.prefixRow.trans hp)]
    · rfl

end

/-- Settles O9: the fetch by `fetchCode_spec`, the count of opcode bytes by `m1_length`. -/
theorem fetchCounts : Obligations.FetchCounts := by
  intro i s hwf
  refine ⟨?_, fun b rest h => ?_⟩
  · obtain ⟨d, tr, h⟩ := fetchCode_spec 0 i.code s code_operand_length
    exact ⟨_, d, by rw [h]; simp [encode], rfl⟩
  · rw [m1_length hwf h]
    simp only [prefixByte_iff]

/-! ## The meanings of the rows -/

section

variable {i : Instr} {op : Byte}

theorem exec_eq_execBaseRow (hm : i.codeBase.m1 = [op]) (hp : i.isPrefixRow = false) (s : State) :
    exec i s = execBaseRow i s := by
  cases i with
  | prefixCb | prefixDd | prefixEd | prefixFd => cases hp
  | _ => cases hm <;> rfl

theorem execBaseRow_completes (hm : i.codeBase.m1 = [op]) (hp : i.isPrefixRow = false) (s : State) :
    ∃ u, execBaseRow i s = .next u := by
  cases i with
  | prefixCb | prefixDd | prefixEd | prefixFd => cases hp
  | _ => cases hm <;> exact ⟨_, rfl⟩

/-- Every instruction but the bare prefixes completes (60_exceptions.md R400). -/
theorem execRow_completes (hwf : i.wellFormed = true) (hp : i.isPrefixRow = false) (s : State) :
    ∃ u, execRow i s = .next u := by
  cases i with
  | ddIgnored base | fdIgnored base =>
    obtain ⟨⟨op, hm⟩, hpb⟩ := ignoresIndex_spec hwf
    exact execBaseRow_completes hm hpb (charge _ s)
  | prefixCb | prefixDd | prefixEd | prefixFd | prefixDdCb | prefixFdCb => cases hp
  | _ => exact ⟨_, rfl⟩

theorem exec_prefixRow (h : i.isPrefixRow = true) (s : State) : exec i s = continueDecode (encode i) s := by
  cases i <;> cases h <;> rfl

theorem encode_length_pos_of_prefixRow (h : i.isPrefixRow = true) : 1 ≤ (encode i).length := by
  cases i <;> cases h <;> decide

theorem continueDecode_of_decode {pfx rest : List Byte} {s : State}
    (h : decode (pfx ++ window s s.pc 3) = .ok i rest) :
    continueDecode pfx s = execRow i (fetchCode pfx.length i.code s) := by
  simp [continueDecode, h]

end

/-- Settles O55: under an ignored DD or FD byte the base page's meaning runs; a chain step is one update; after a byte
that only begins a page the decoder answers a whole row (`decode_faithful`), which completes. -/
theorem prefixes : Obligations.Prefixes := by
  intro s
  refine ⟨fun base hi => ?ignored, fun i hi => ?chain, fun row hrow => ?bare⟩
  case ignored =>
    obtain ⟨⟨op, hm⟩, hp⟩ := ignoresIndex_spec hi
    have hexec (n : Nat) : execBaseRow base (charge n s) = exec base { s with t := s.t + n } :=
      (exec_eq_execBaseRow hm hp _).symm
    exact ⟨hexec _, hexec _, execBaseRow_completes hm hp _, execBaseRow_completes hm hp _⟩
  case chain =>
    obtain rfl | rfl | rfl | rfl | rfl | rfl := hi <;> rfl
  case bare =>
    have hw : (window s s.pc 3).length = 3 := rfl
    have hl : 4 ≤ (encode row ++ window s s.pc 3).length := by
      have := encode_length_pos_of_prefixRow hrow
      rw [List.length_append]
      omega
    have hf := decode_faithful (encode row ++ window s s.pc 3)
    obtain ⟨j, rest, hd, hj⟩ := hf.total hl
    have hexec : exec row s = execRow j (fetchCode (encode row).length j.code s) :=
      (exec_prefixRow hrow s).trans (continueDecode_of_decode hd)
    obtain ⟨u, hu⟩ := execRow_completes (hf.sound j rest hd).1 hj (fetchCode (encode row).length j.code s)
    exact ⟨j, rest, u, hd, hj, hexec.trans (exec_eq_execRow hj _).symm, hexec.trans hu⟩

end Sys2Proof.Machine

/-! SUPPORT. The 8-bit loads (spec/40_load8.md R140 to R152): between registers, from and to memory, of I and R. -/

namespace Sys2Proof.Machine

open Sys2Proof.Claim

/-! ## Registers -/

theorem exec_ldXhN (x : Index) (n : Byte) (s : State) :
    exec (x.sel (.ldIxhN n) (.ldIyhN n)) s =
      .next (charge (s.cost (x.sel (.ldIxhN n) (.ldIyhN n)) 11) (loadHalf x .hi n s)) := by
  cases x <;> rfl

theorem exec_ldXlN (x : Index) (n : Byte) (s : State) :
    exec (x.sel (.ldIxlN n) (.ldIylN n)) s =
      .next (charge (s.cost (x.sel (.ldIxlN n) (.ldIylN n)) 11) (loadHalf x .lo n s)) := by
  cases x <;> rfl

theorem exec_ldRSX (x : Index) (r r2 : XReg8) (s : State) :
    exec (x.sel Instr.ldRSIx Instr.ldRSIy r r2) s =
      .next (charge (s.cost (x.sel Instr.ldRSIx Instr.ldRSIy r r2) 8) (loadX8 x r r2 s)) := by
  cases x <;> rfl

/-- Settles O25: each form is one register write and its T-states. -/
theorem loadRegister8 : Obligations.LoadRegister8 := fun s =>
  ⟨fun _ _ => rfl, fun x r r2 => exec_ldRSX x r r2 s, fun _ _ => rfl, fun x n => exec_ldXhN x n s,
    fun x n => exec_ldXlN x n s⟩

/-! ## Memory -/

section

variable {i : Instr} {s : State} {a : Word} {n : Nat}

/-- A row that loads `r` from `a` writes `r`, T, the count of free values and the trace (R142, R145, R146). -/
theorem load_of_exec {r : Reg8} (h : exec i s = .next (charge n (loadFrom a r s))) :
    ∃ u, exec i s = .next u ∧ StoresNothing s u ∧
      u = { s with
        regs := s.regs.set8 r (peek s a), t := s.t + n
        draws := s.draws + drawsOf s a, trace := u.trace } :=
  ⟨_, h, fun _ => rfl, rfl⟩

/-- A row that stores `v` at `a` writes that byte, T and the trace (R143, R144, R147, R148). -/
theorem store_of_exec {v : Byte} (hm : s.mem.wf = true) (h : exec i s = .next (charge n (memWrite a v s))) :
    ∃ u, exec i s = .next u ∧ Stores s u a v ∧
      u = { s with t := s.t + n, mem := u.mem, trace := u.trace } :=
  ⟨_, h, fun b => stored_memWrite hm a b v, congrArg (charge n) (writeAs_state true a v s)⟩

end

theorem exec_ldRAtX (x : Index) (r : Reg8) (d : Byte) (s : State) :
    exec (x.sel (.ldRAtIx r d) (.ldRAtIy r d)) s =
      .next (charge (s.cost (x.sel (.ldRAtIx r d) (.ldRAtIy r d)) 19) (loadFrom (s.regs.indexed x d) r s)) := by
  cases x <;> rfl

theorem exec_ldAtXS (x : Index) (d : Byte) (r : Reg8) (s : State) :
    exec (x.sel (.ldAtIxS d r) (.ldAtIyS d r)) s =
      .next (charge (s.cost (x.sel (.ldAtIxS d r) (.ldAtIyS d r)) 19)
        (memWrite (s.regs.indexed x d) (s.regs.get8 r) s)) := by
  cases x <;> rfl

theorem exec_ldAtXN (x : Index) (d n : Byte) (s : State) :
    exec (x.sel (.ldAtIxN d n) (.ldAtIyN d n)) s =
      .next (charge (s.cost (x.sel (.ldAtIxN d n) (.ldAtIyN d n)) 19) (memWrite (s.regs.indexed x d) n s)) := by
  cases x <;> rfl

/-- Settles O26: every form is `loadFrom` at its address. -/
theorem loadMemory8 : Obligations.LoadMemory8 := fun s =>
  ⟨fun _ => load_of_exec rfl, fun x r d => load_of_exec (exec_ldRAtX x r d s), fun _ => load_of_exec rfl,
    fun _ => load_of_exec rfl⟩

/-- Settles O27: every form is `memWrite` at its address. -/
theorem storeMemory8 : Obligations.StoreMemory8 := fun s hm =>
  ⟨fun _ => store_of_exec hm rfl, fun x d r => store_of_exec hm (exec_ldAtXS x d r s),
    fun _ => store_of_exec hm rfl, fun x d n => store_of_exec hm (exec_ldAtXN x d n s),
    fun _ => store_of_exec hm rfl, fun _ => store_of_exec hm rfl⟩

/-! ## I and R -/

theorem loadIrFlags_spec (v : Byte) (iff2 : Bool) (f : Flags) :
    SignZeroFrom v (loadIrFlags v iff2 f) ∧ (loadIrFlags v iff2 f).hf = false ∧
      (loadIrFlags v iff2 f).pf = iff2 ∧ (loadIrFlags v iff2 f).nf = false ∧ (loadIrFlags v iff2 f).cf = f.cf :=
  ⟨⟨rfl, decide_eq_true_iff, rfl, rfl⟩, rfl, rfl, rfl, rfl⟩

/-- R is its bit 7 times 128 and its low seven bits (10_state.md R28). -/
theorem refresh_toNat (s : State) : (refresh s).toNat = 128 * s.rbit7.toNat + s.rlo7.toNat := by
  have hlt : s.rlo7.toNat < 2 ^ 7 := s.rlo7.isLt
  have hlow : (s.rlo7.setWidth 8).toNat = s.rlo7.toNat := BitVec.toNat_setWidth_of_le (by decide)
  rw [refresh, BitVec.toNat_or, hlow]
  cases s.rbit7 with
  | false => simp [bitAt]
  | true => exact (Nat.two_pow_add_eq_or_of_lt hlt 1).symm

/-- A write to R in arithmetic: the low seven bits and bit 7 (R28). -/
theorem setRefresh_spec (v : Byte) (s : State) :
    (setRefresh v s).rlo7.toNat = v.toNat % 128 ∧ (setRefresh v s).rbit7 = decide (128 ≤ v.toNat) :=
  ⟨BitVec.toNat_setWidth .., BitVec.msb_eq_decide v⟩

/-- Settles O28: `loadSpecial` on I and on the value of R; `setRefresh` on A. -/
theorem specialRegisterLoads : Obligations.SpecialRegisterLoads := fun s =>
  ⟨⟨_, rfl, loadIrFlags_spec s.i s.iff2 s.flags⟩,
    ⟨refresh s, refresh_toNat s, _, rfl, loadIrFlags_spec (refresh s) s.iff2 s.flags⟩,
    rfl, _, rfl, rfl, setRefresh_spec s.regs.a s⟩

end Sys2Proof.Machine

/-! SUPPORT. The 16-bit loads, PUSH and POP (spec/41_load16.md R170 to R177): a word loaded from memory, stored,
pushed and popped, each said once for every row that does it. -/

namespace Sys2Proof.Machine

open Sys2Proof.Claim

/-! ## Words in memory and on the stack -/

/-- `MemRead(a, 2)` gives `wordAt` and draws `wordDraws` (R62, R71). -/
theorem readWord_eq_wordAt (k : WordAccess) (a : Word) (s : State) :
    readWord k a s =
      (wordAt s a, { s with draws := s.draws + wordDraws s a, trace := (readWord k a s).2.trace }) := by
  rw [wordDraws, ← Nat.add_assoc]
  exact readWord_spec k a s

/-- `Pop16()` gives the word at SP (R79). -/
theorem pop16_eq_wordAt (s : State) :
    pop16 s =
      (wordAt s s.regs.sp,
        { s with
          regs := { s.regs with sp := s.regs.sp + 2 }
          draws := s.draws + wordDraws s s.regs.sp
          trace := (pop16 s).2.trace }) := by
  rw [wordDraws, ← Nat.add_assoc]
  exact pop16_spec s

/-- T-states change no byte of memory. -/
theorem stored_charge (n : Nat) (s : State) (b : Word) : stored (charge n s) b = stored s b := rfl

section

variable {i : Instr} {s : State} {a v : Word} {n : Nat} {g : Regs} {f : Flags}

/-- A row that reads the word at `a` and then has the registers `g` writes these, T, the count of free values and
the trace (R171, R172). -/
theorem loadWord_of_exec (h : exec i s = .next (charge n ((readWord .load a s).2.withRegs g))) :
    ∃ u, exec i s = .next u ∧ StoresNothing s u ∧
      u = { s with regs := g, t := s.t + n, draws := s.draws + wordDraws s a, trace := u.trace } :=
  ⟨_, h, fun _ => rfl,
    congrArg (fun r => charge n (r.2.withRegs g)) (readWord_eq_wordAt .load a s)⟩

/-- A row that stores the word `v` at `a` writes its two bytes, T and the trace (R173, R174). -/
theorem storeWord_of_exec (hm : s.mem.wf = true) (h : exec i s = .next (charge n (writeWord .store a v s))) :
    ∃ u, exec i s = .next u ∧ StoresWord s u a v ∧ u = { s with t := s.t + n, mem := u.mem, trace := u.trace } :=
  ⟨_, h, fun b => (stored_charge n _ b).trans (stored_writeWord hm .store a v b),
    congrArg (charge n) (writeWord_state .store a v s)⟩

/-- A row that pushes `v` writes its two bytes below SP, SP, T and the trace (R176). -/
theorem push_of_exec (hm : s.mem.wf = true) (h : exec i s = .next (charge n (push16 v s))) :
    ∃ u, exec i s = .next u ∧ StoresWord s u (s.regs.sp - 2) v ∧
      u = { s with
        regs := { s.regs with sp := s.regs.sp - 2 }, t := s.t + n, mem := u.mem, trace := u.trace } :=
  ⟨_, h, fun b => (stored_charge n _ b).trans (stored_push16 hm v b), congrArg (charge n) (push16_state v s)⟩

/-- A row that pops and then has the registers `g`, but for SP, and the flags `f` writes these, SP, T, the count of
free values and the trace (R177). -/
theorem pop_of_exec
    (h : exec i s = .next (charge n (((pop16 s).2.withRegs { g with sp := s.regs.sp + 2 }).withFlags f))) :
    ∃ u, exec i s = .next u ∧ StoresNothing s u ∧
      u = { s with
        regs := { g with sp := s.regs.sp + 2 }, flags := f, t := s.t + n
        draws := s.draws + wordDraws s s.regs.sp, trace := u.trace } :=
  ⟨_, h, fun _ => rfl,
    congrArg (fun r => charge n ((r.2.withRegs { g with sp := s.regs.sp + 2 }).withFlags f)) (pop16_eq_wordAt s)⟩

end

/-! ## The rows of IX and IY -/

section

variable (x : Index) (nn : Word) (s : State)

theorem exec_ldXNn :
    exec (x.sel (.ldIxNn nn) (.ldIyNn nn)) s =
      .next (charge (s.cost (x.sel (.ldIxNn nn) (.ldIyNn nn)) 14) (s.withRegs (s.regs.setIndex x nn))) := by
  cases x <;> rfl

theorem exec_ldXAtNn :
    exec (x.sel (.ldIxAtNn nn) (.ldIyAtNn nn)) s =
      .next (charge (s.cost (x.sel (.ldIxAtNn nn) (.ldIyAtNn nn)) 20) (loadIndex x nn s)) := by
  cases x <;> rfl

theorem exec_ldAtNnX :
    exec (x.sel (.ldAtNnIx nn) (.ldAtNnIy nn)) s =
      .next (charge (s.cost (x.sel (.ldAtNnIx nn) (.ldAtNnIy nn)) 20)
        (writeWord .store nn (s.regs.getIndex x) s)) := by
  cases x <;> rfl

theorem exec_ldSpX :
    exec (x.sel .ldSpIx .ldSpIy) s =
      .next (charge (s.cost (x.sel .ldSpIx .ldSpIy) 10) (setSp (s.regs.getIndex x) s)) := by
  cases x <;> rfl

theorem exec_pushX :
    exec (x.sel .pushIx .pushIy) s =
      .next (charge (s.cost (x.sel .pushIx .pushIy) 15) (push16 (s.regs.getIndex x) s)) := by
  cases x <;> rfl

theorem exec_popX :
    exec (x.sel .popIx .popIy) s = .next (charge (s.cost (x.sel .popIx .popIy) 14) (popIndex x s)) := by
  cases x <;> rfl

/-- Popping IX or IY writes the word at SP to it; SP is as `Pop16()` leaves it (R177). -/
theorem popIndex_spec :
    popIndex x s =
      ((pop16 s).2.withRegs
        { s.regs.setIndex x (wordAt s s.regs.sp) with sp := s.regs.sp + 2 }).withFlags s.flags := by
  cases x <;> rfl

end

/-! ## The statements -/

/-- Settles O29: a form is a register write, or `readWord` at its address and then a register write. -/
theorem load16 : Obligations.Load16 := fun s =>
  ⟨fun _ _ => rfl, fun x nn => exec_ldXNn x nn s, fun _ => loadWord_of_exec rfl,
    fun x nn => loadWord_of_exec (exec_ldXAtNn x nn s), fun _ _ => loadWord_of_exec rfl, rfl,
    fun x => exec_ldSpX x s⟩

/-- Settles O30: every form is `writeWord` at its address. -/
theorem store16 : Obligations.Store16 := fun s hm =>
  ⟨fun _ => storeWord_of_exec hm rfl, fun x nn => storeWord_of_exec hm (exec_ldAtNnX x nn s),
    fun _ _ => storeWord_of_exec hm rfl⟩

/-- Settles O31: PUSH is `push16` of its pair; POP is `pop16` and then the write of its pair, which for AF is A and
every flag. -/
theorem pushAndPop : Obligations.PushAndPop := by
  intro s hm Pushes Pops w
  have push (q : StackPair) : Pushes (.pushQ q) (s.getStackPair q) 11 := push_of_exec hm (exec_pushQ q s)
  have pushX (x : Index) : Pushes (x.sel .pushIx .pushIy) (s.regs.getIndex x) 15 :=
    push_of_exec hm (exec_pushX x s)
  have popX (x : Index) : Pops (x.sel .popIx .popIy) (s.regs.setIndex x w) s.flags 14 :=
    pop_of_exec (popIndex_spec x s ▸ exec_popX x s)
  exact ⟨push .bc, push .de, push .hl, push .af, pushX, pop_of_exec (exec_popQ .bc s),
    pop_of_exec (exec_popQ .de s), pop_of_exec (exec_popQ .hl s), pop_of_exec (exec_popQ .af s), popX⟩

end Sys2Proof.Machine

/-! SUPPORT. The exchanges, block load and block compare (spec/42_exchange_block.md R190 to R201): the word at the
top of the stack swapped, and one step of each block instruction, said once for the single and the repeating row. -/

namespace Sys2Proof.Machine

open Sys2Proof.Claim

/-! ## The exchanges -/

/-- Two exchanged pairs hold each other's bytes (R190). -/
theorem setDe_hl_setHl_de (g : Regs) :
    (g.setDe g.hl).setHl g.de = { g with d := g.h, e := g.l, h := g.d, l := g.e } := by
  simp [Regs.setDe, Regs.setHl, Regs.hl, Regs.de]

/-- The exchange with the top of the stack gives the word at SP and changes memory, the count of free values and the
trace (R193). -/
theorem exchangeTop_eq_wordAt (v : Word) (s : State) :
    exchangeTop v s =
      (wordAt s s.regs.sp,
        { s with
          draws := s.draws + wordDraws s s.regs.sp
          mem := (exchangeTop v s).2.mem
          trace := (exchangeTop v s).2.trace }) := by
  refine Prod.ext rfl ?_
  unfold exchangeTop
  simp only
  rw [writeAs_state true s.regs.sp, writeAs_state _ (s.regs.sp + 1), readWord_eq_wordAt]

@[simp] theorem exchangeTop_regs (v : Word) (s : State) : (exchangeTop v s).2.regs = s.regs :=
  (congrArg (fun r => r.2.regs) (exchangeTop_eq_wordAt v s) :)

@[simp] theorem stored_readWord (k : WordAccess) (a : Word) (s : State) (b : Word) :
    stored (readWord k a s).2 b = stored s b := rfl

/-- The exchange stores its word at SP and SP + 1 (R193); the high byte goes first, at the other address. -/
theorem stored_exchangeTop {s : State} (hm : s.mem.wf = true) (v b : Word) :
    stored (exchangeTop v s).2 b =
      if b = s.regs.sp + 1 ∧ memKind s.platform (s.regs.sp + 1) = .ram then hiByte v
      else if b = s.regs.sp ∧ memKind s.platform s.regs.sp = .ram then loByte v
      else stored s b := by
  have hr : (readWord .exRead s.regs.sp s).2.mem.wf = true := hm
  unfold exchangeTop
  rw [stored_writeAs (writeAs_wf _ _ _ hr), stored_writeAs hr, stored_readWord, writeAs_platform, readWord_platform]
  by_cases high : b = s.regs.sp + 1
  · have low : ¬b = s.regs.sp := by rw [high]; bv_omega
    simp only [low, false_and, if_false]
  · simp only [high, false_and, if_false]

/-- A row that exchanges `v` with the word at SP and then has the registers `g` writes these, two bytes of memory, T,
the count of free values and the trace (R193). -/
theorem exchangeTop_of_exec {i : Instr} {s : State} {n : Nat} {v : Word} {g : Regs} (hm : s.mem.wf = true)
    (h : exec i s = .next (charge n ((exchangeTop v s).2.withRegs g))) :
    ∃ u, exec i s = .next u ∧ StoresWord s u s.regs.sp v ∧
      u = { s with
        regs := g, t := s.t + n, draws := s.draws + wordDraws s s.regs.sp
        mem := u.mem, trace := u.trace } :=
  ⟨_, h, stored_exchangeTop hm v, congrArg (fun r => charge n (r.2.withRegs g)) (exchangeTop_eq_wordAt v s)⟩

theorem exec_exDeHl (s : State) :
    exec .exDeHl s =
      .next (charge (s.cost .exDeHl 4)
        (s.withRegs { s.regs with d := s.regs.h, e := s.regs.l, h := s.regs.d, l := s.regs.e })) := by
  rw [← setDe_hl_setHl_de]
  rfl

theorem exec_exAtSpHl (s : State) :
    exec .exAtSpHl s =
      .next (charge (s.cost .exAtSpHl 19)
        ((exchangeTop s.regs.hl s).2.withRegs (s.regs.setHl (wordAt s s.regs.sp)))) := by
  change execExAtSpHl s = _
  rw [execExAtSpHl, exchangeTop_regs]
  rfl

/-- EX (SP) of IX or IY writes the word at SP to it (R193). -/
theorem exchangeIndex_eq (x : Index) (s : State) :
    exchangeIndex x s =
      (exchangeTop (s.regs.getIndex x) s).2.withRegs (s.regs.setIndex x (wordAt s s.regs.sp)) := by
  rw [exchangeIndex, exchangeTop_regs]
  rfl

theorem exec_exAtSpX (x : Index) (s : State) :
    exec (x.sel .exAtSpIx .exAtSpIy) s =
      .next (charge (s.cost (x.sel .exAtSpIx .exAtSpIy) 23)
        ((exchangeTop (s.regs.getIndex x) s).2.withRegs (s.regs.setIndex x (wordAt s s.regs.sp)))) := by
  rw [← exchangeIndex_eq]
  cases x <;> rfl

/-! ## One step of a block instruction -/

/-- The end of a step changes PC and T (R195). With `again` false it is `charge other`, the end of LDI, LDD, CPI and
CPD. -/
theorem repeatIf_eq (taken other : Nat) (again : Bool) (s : State) :
    repeatIf taken other again s =
      { s with
        pc := if again then s.pc - 2 else s.pc
        t := s.t + if again then taken else other } := by
  cases again <;> rfl

/-- One step of LDI or LDD writes HL, DE, BC, the flags, memory, the count of free values and the trace (R194, R196). -/
theorem ldBlock_state (step : Word) (s : State) :
    ldBlock step s =
      { s with
        regs := ((s.regs.setHl (s.regs.hl + step)).setDe (s.regs.de + step)).setBc (s.regs.bc - 1)
        flags := ldBlockFlags s.regs.a (peek s s.regs.hl) (s.regs.bc - 1) s.flags
        draws := s.draws + drawsOf s s.regs.hl
        mem := (ldBlock step s).mem
        trace := (ldBlock step s).trace } := by
  unfold ldBlock memWrite
  simp only
  rw [writeAs_state]
  rfl

/-- One step of LDI or LDD stores the byte at HL at DE (R194, R196). -/
theorem stored_ldBlock {s : State} (hm : s.mem.wf = true) (step : Word) (b : Word) :
    stored (ldBlock step s) b =
      if b = s.regs.de ∧ memKind s.platform s.regs.de = .ram then peek s s.regs.hl else stored s b :=
  stored_memWrite (s := (memRead s.regs.hl s).2) hm s.regs.de b (peek s s.regs.hl)

/-- LDIR and LDDR repeat while BC is not 0 after its decrement (R195, R197). -/
theorem ldRepeats_ldBlock (step : Word) (s : State) :
    ldRepeats (ldBlock step s) = decide (s.regs.bc - 1 ≠ 0) := by
  rw [ldRepeats, ldBlock_state]
  simp only [setBc_bc]

/-- The half borrow of `a - v`, read from the difference's bit 4 (R198). -/
theorem halfBorrow_iff (a v : Byte) :
    (a ^^^ v ^^^ (a - v)).getLsbD 4 = true ↔ a.toNat % 16 < v.toNat % 16 := by
  have ha := a.isLt
  have hv := v.isLt
  rw [BitVec.getLsbD, BitVec.toNat_xor, BitVec.toNat_xor, xor3_testBit, BitVec.toNat_sub]
  omega

/-- The flags of CPI and CPD that R198 gives other than by the model's formula: Z, H, and Y and X with the half
borrow taken off as a number. -/
theorem cpBlockFlags_spec (a v : Byte) (bc : Word) (f : Flags) :
    ((cpBlockFlags a v bc f).zf = true ↔ a = v) ∧
      ((cpBlockFlags a v bc f).hf = true ↔ a.toNat % 16 < v.toNat % 16) ∧
      (cpBlockFlags a v bc f).yf = (a - v - if (cpBlockFlags a v bc f).hf then 1 else 0).getLsbD 1 ∧
      (cpBlockFlags a v bc f).xf = (a - v - if (cpBlockFlags a v bc f).hf then 1 else 0).getLsbD 3 :=
  ⟨decide_eq_true_iff.trans sub_eq_zero, halfBorrow_iff a v, rfl, rfl⟩

/-- CPIR and CPDR repeat while BC is not 0 after its decrement and the byte did not match (R199, R201). -/
theorem cpRepeats_cpBlock (step : Word) (s : State) :
    cpRepeats (cpBlock step s) = decide (s.regs.bc - 1 ≠ 0 ∧ s.regs.a ≠ peek s s.regs.hl) := by
  have hbc : (cpBlock step s).regs.bc = s.regs.bc - 1 := setBc_bc ..
  have hzf : (cpBlock step s).flags.zf = decide (s.regs.a = peek s s.regs.hl) := decide_eq_decide.2 sub_eq_zero
  rw [cpRepeats, hbc, hzf]
  simp only [ne_eq, Bool.decide_and, decide_not]

/-! ## The statements -/

/-- Settles O33: EX (SP) is `exchangeTop` and then a register write; the other exchanges are register writes. -/
theorem exchanges : Obligations.Exchanges := fun s hm =>
  ⟨exchangeTop_of_exec hm (exec_exAtSpHl s), fun x => exchangeTop_of_exec hm (exec_exAtSpX x s),
    exec_exDeHl s, rfl, rfl⟩

/-- Settles O34: every form is `ldBlock` and then `repeatIf`, with `again` false in the single ones. -/
theorem blockLoad : Obligations.BlockLoad := by
  intro s hm v n bc Copies more
  have copies {i : Instr} {step : Word} {again : Bool} {taken other : Nat}
      (h : exec i s = .next (repeatIf taken other again (ldBlock step s))) :
      Copies i (s.regs.hl + step) (s.regs.de + step) again (if again then taken else other) := by
    have hstate := congrArg (repeatIf taken other again) (ldBlock_state step s)
    rw [repeatIf_eq, repeatIf_eq] at hstate
    rw [repeatIf_eq] at h
    exact ⟨_, h, stored_ldBlock hm step, hstate⟩
  have repeats (step : Word) : ldRepeats (ldBlock step s) = more := ldRepeats_ldBlock step s
  rw [BitVec.sub_eq_add_neg s.regs.hl, BitVec.sub_eq_add_neg s.regs.de]
  exact ⟨copies (again := false) (taken := 0) rfl, copies (repeats 1 ▸ rfl),
    copies (again := false) (taken := 0) rfl, copies (repeats (-1) ▸ rfl)⟩

/-- Settles O35: every form is `cpBlock` and then `repeatIf`, with `again` false in the single ones. -/
theorem blockCompare : Obligations.BlockCompare := by
  intro s v r bc Compares more
  have compares {i : Instr} {step : Word} {again : Bool} {taken other : Nat}
      (h : exec i s = .next (repeatIf taken other again (cpBlock step s))) :
      Compares i (s.regs.hl + step) again (if again then taken else other) := by
    obtain ⟨hzf, hhf, hyf, hxf⟩ := cpBlockFlags_spec s.regs.a v bc s.flags
    rw [repeatIf_eq] at h
    exact ⟨_, _, h, fun _ => rfl, rfl, rfl, hzf, hhf, rfl, rfl, rfl, hyf, hxf⟩
  have repeats (step : Word) : cpRepeats (cpBlock step s) = more := cpRepeats_cpBlock step s
  rw [BitVec.sub_eq_add_neg s.regs.hl]
  exact ⟨compares (again := false) (taken := 0) rfl, compares (repeats 1 ▸ rfl),
    compares (again := false) (taken := 0) rfl, compares (repeats (-1) ▸ rfl)⟩

end Sys2Proof.Machine

/-! SUPPORT. The 8-bit arithmetic and logic (spec/43_alu8.md R220 to R234): the flags of each operation in arithmetic,
the eight operations on A by their code in every operand form, INC and DEC on a register, an index half and memory. -/

namespace Sys2Proof.Machine

open Sys2Proof.Claim

/-! ## The flags in arithmetic -/

/-- The sum of R221. -/
theorem add8_sum8 (a b : Byte) (c : Bool) : Sum8 a b c (add8 a b c).1 (add8 a b c).2 := by
  obtain ⟨hres, hcf, hhf, hpf⟩ := add8_spec a b c
  rw [bitNat_eq] at hres hcf hhf hpf
  exact ⟨hres, hcf, hhf, hpf, rfl, rfl, decide_eq_true_iff, rfl, rfl⟩

/-- The difference of R222. -/
theorem sub8_difference8 (a b : Byte) (c : Bool) : Difference8 a b c (sub8 a b c).1 (sub8 a b c).2 := by
  obtain ⟨hres, hcf, hhf, hpf⟩ := sub8_spec a b c
  rw [bitNat_eq] at hres hcf hhf hpf
  exact ⟨hres, hcf, hhf, hpf, rfl, rfl, decide_eq_true_iff, rfl, rfl⟩

/-- The flags of R223. -/
theorem logic_logicFlags (res : Byte) (h : Bool) : LogicFlags res h (logic res h) :=
  ⟨⟨rfl, decide_eq_true_iff, rfl, rfl⟩, rfl, parity_spec res, rfl, rfl⟩

/-- The difference without a borrow is that of the bytes. -/
theorem sub8_false_fst (a b : Byte) : (sub8 a b false).1 = a - b := by
  obtain ⟨hres, -⟩ := sub8_difference8 a b false
  apply BitVec.eq_of_toNat_eq
  rw [BitVec.toNat_sub]
  simp only [Bool.toNat_false] at hres
  omega

/-- CP has the flags of the difference but for Y and X (R231). -/
theorem cpFlags_compareFlags (a b : Byte) : CompareFlags a b (cpFlags a b) := by
  obtain ⟨-, hcf, hhf, hpf, hnf, hsf, hzf, -, -⟩ := sub8_difference8 a b false
  simp only [sub8_false_fst, sub_eq_zero, Bool.toNat_false, Nat.add_zero, Int.natCast_zero, Int.sub_zero]
    at hcf hhf hpf hsf hzf
  exact ⟨hcf, hzf, hsf, hhf, hpf, hnf, rfl, rfl⟩

/-- The low digit of a byte, as a number. -/
theorem lowDigit_toNat (v : Byte) : (v &&& 0x0F).toNat = v.toNat % 16 :=
  (BitVec.toNat_and ..).trans (Nat.and_two_pow_sub_one_eq_mod v.toNat 4)

/-- INC adds 1; the low digit of the result is 0 where it wrapped, and only 0x7F goes up to 0x80 (R232). -/
theorem inc8_spec (v : Byte) (f : Flags) : (inc8 v f).1 = v + 1 ∧ IncrementFlags v f (inc8 v f).2 := by
  have low : v + 1 &&& 0x0F = 0 ↔ v.toNat % 16 = 15 := by
    rw [← BitVec.toNat_inj, lowDigit_toNat]
    bv_omega
  have top : v + 1 = 0x80 ↔ v = 0x7F := eq_sub_iff_add_eq.symm
  exact ⟨rfl, ⟨rfl, decide_eq_true_iff, rfl, rfl⟩, decide_eq_true_iff.trans low, decide_eq_true_iff.trans top, rfl, rfl⟩

/-- DEC subtracts 1; the low digit of the result is 15 where it wrapped, and only 0x80 goes down to 0x7F (R233). -/
theorem dec8_spec (v : Byte) (f : Flags) : (dec8 v f).1 = v - 1 ∧ DecrementFlags v f (dec8 v f).2 := by
  have low : v - 1 &&& 0x0F = 0x0F ↔ v.toNat % 16 = 0 := by
    rw [← BitVec.toNat_inj, lowDigit_toNat]
    bv_omega
  have bottom : v - 1 = 0x7F ↔ v = 0x80 := sub_eq_iff_eq_add
  exact ⟨rfl, ⟨rfl, decide_eq_true_iff, rfl, rfl⟩, decide_eq_true_iff.trans low, decide_eq_true_iff.trans bottom, rfl,
    rfl⟩

/-! ## The operations on A -/

/-- The operation on A that has the code `k` of R97. -/
def aluOp : Nat → Byte → State → State
  | 0 => addA
  | 1 => adcA
  | 2 => subA
  | 3 => sbcA
  | 4 => andA
  | 5 => xorA
  | 6 => orA
  | _ => cpA

theorem exec_aluReg (k : Nat) (r : Reg8) (s : State) :
    exec (aluReg k r) s = .next (charge (s.cost (aluReg k r) 4) (onReg (aluOp k) r s)) :=
  match k with
  | 0 | 1 | 2 | 3 | 4 | 5 | 6 | _ + 7 => rfl

theorem exec_aluImm (k : Nat) (n : Byte) (s : State) :
    exec (aluImm k n) s = .next (charge (s.cost (aluImm k n) 7) (onImm (aluOp k) n s)) :=
  match k with
  | 0 | 1 | 2 | 3 | 4 | 5 | 6 | _ + 7 => rfl

theorem exec_aluAtHl (k : Nat) (s : State) :
    exec (aluAtHl k) s = .next (charge (s.cost (aluAtHl k) 7) (onAtHl (aluOp k) s)) :=
  match k with
  | 0 | 1 | 2 | 3 | 4 | 5 | 6 | _ + 7 => rfl

theorem exec_aluHalf (k : Nat) (x : Index) (h : Half) (s : State) :
    exec (x.sel (aluIxHalf k h) (aluIyHalf k h)) s =
      .next (charge (s.cost (x.sel (aluIxHalf k h) (aluIyHalf k h)) 8) (onHalf (aluOp k) x h s)) :=
  match x, k with
  | .ix, 0 | .ix, 1 | .ix, 2 | .ix, 3 | .ix, 4 | .ix, 5 | .ix, 6 | .ix, _ + 7 => rfl
  | .iy, 0 | .iy, 1 | .iy, 2 | .iy, 3 | .iy, 4 | .iy, 5 | .iy, 6 | .iy, _ + 7 => rfl

theorem exec_aluIndexed (k : Nat) (x : Index) (d : Byte) (s : State) :
    exec (x.sel (aluAtIx k d) (aluAtIy k d)) s =
      .next (charge (s.cost (x.sel (aluAtIx k d) (aluAtIy k d)) 19) (onIndexed (aluOp k) x d s)) :=
  match x, k with
  | .ix, 0 | .ix, 1 | .ix, 2 | .ix, 3 | .ix, 4 | .ix, 5 | .ix, 6 | .ix, _ + 7 => rfl
  | .iy, 0 | .iy, 1 | .iy, 2 | .iy, 3 | .iy, 4 | .iy, 5 | .iy, 6 | .iy, _ + 7 => rfl

section

variable {s : State}

/-- What follows from a row's running `aluOp k` on its operand, in a state whose registers and flags the read of the
operand left as they were, holds of every operand form of the code `k` (R220). -/
theorem aluForms_of_aluOp (k : Nat) {P : Instr → Byte → State → Nat → Prop}
    (h : ∀ i v s0 n, s0.regs = s.regs → s0.flags = s.flags →
      exec i s = .next (charge (s.cost i n) (aluOp k v s0)) → P i v s0 n) :
    AluForms (aluReg k) (aluImm k) (aluAtHl k) (fun x p => x.sel (aluIxHalf k p) (aluIyHalf k p))
      (fun x d => x.sel (aluAtIx k d) (aluAtIy k d)) P s :=
  ⟨fun r => h _ _ _ _ rfl rfl (exec_aluReg k r s), fun n => h _ _ _ _ rfl rfl (exec_aluImm k n s),
    h _ _ _ _ rfl rfl (exec_aluAtHl k s), fun x p => h _ _ _ _ rfl rfl (exec_aluHalf k x p s),
    fun x d => h _ _ _ _ rfl rfl (exec_aluIndexed k x d s)⟩

/-- Where the operation `k` writes the result `op` of A, C and the operand to A and the flags, every form does so
(R220). -/
theorem aluForms_toA (k : Nat) (op : Byte → Bool → Byte → Byte × Flags) {law : Byte → Byte → Flags → Prop}
    (hop : ∀ v u, aluOp k v u = toA (op u.regs.a u.flags.cf v) u)
    (hlaw : ∀ v, law v (op s.regs.a s.flags.cf v).1 (op s.regs.a s.flags.cf v).2) :
    AluForms (aluReg k) (aluImm k) (aluAtHl k) (fun x p => x.sel (aluIxHalf k p) (aluIyHalf k p))
      (fun x d => x.sel (aluAtIx k d) (aluAtIy k d)) (fun i v s0 cost => ToA i s s0 cost (law v)) s :=
  aluForms_of_aluOp k fun i v s0 n hregs hflags h => by
    rw [hop, hregs, hflags] at h
    exact ⟨_, _, h, hlaw v⟩

end

/-- Settles O36: ADD is the sum without a carry, ADC the sum with C. -/
theorem addGroup : Obligations.AddGroup := fun s =>
  ⟨aluForms_toA 0 (fun a _ v => add8 a v false) (fun _ _ => rfl) fun v => add8_sum8 s.regs.a v false,
    aluForms_toA 1 (fun a c v => add8 a v c) (fun _ _ => rfl) fun v => add8_sum8 s.regs.a v s.flags.cf⟩

/-- Settles O37: SUB is the difference without a borrow, SBC the difference with C. -/
theorem subtractGroup : Obligations.SubtractGroup := fun s =>
  ⟨aluForms_toA 2 (fun a _ v => sub8 a v false) (fun _ _ => rfl) fun v => sub8_difference8 s.regs.a v false,
    aluForms_toA 3 (fun a c v => sub8 a v c) (fun _ _ => rfl) fun v => sub8_difference8 s.regs.a v s.flags.cf⟩

/-- Settles O38: the flags of AND, XOR and OR are `logic` of the result, with H for AND only. -/
theorem logicGroup : Obligations.LogicGroup := fun _ =>
  ⟨aluForms_toA 4 (fun a _ v => (a &&& v, logic (a &&& v) true)) (fun _ _ => rfl)
      fun _ => ⟨rfl, logic_logicFlags _ true⟩,
    aluForms_toA 5 (fun a _ v => (a ^^^ v, logic (a ^^^ v) false)) (fun _ _ => rfl)
      fun _ => ⟨rfl, logic_logicFlags _ false⟩,
    aluForms_toA 6 (fun a _ v => (a ||| v, logic (a ||| v) false)) (fun _ _ => rfl)
      fun _ => ⟨rfl, logic_logicFlags _ false⟩⟩

/-- Settles O39: CP writes `cpFlags` to the flags and no result. -/
theorem compareGroup : Obligations.CompareGroup := fun s =>
  aluForms_of_aluOp 7 fun _ v s0 _ hregs _ h =>
    ⟨cpFlags s0.regs.a v, h, hregs ▸ cpFlags_compareFlags s.regs.a v⟩

/-! ## INC and DEC -/

/-- INC or DEC of the byte at `a` changes the flags, memory, the count of free values and the trace (R232, R233). -/
theorem stepMem_state (op : Byte → Flags → Byte × Flags) (a : Word) (s : State) :
    stepMem op a s =
      { s with
        flags := (op (peek s a) s.flags).2
        draws := s.draws + drawsOf s a
        mem := (stepMem op a s).mem
        trace := (stepMem op a s).trace } :=
  writeAs_state true a _ ((memRead a s).2.withFlags (op (peek s a) s.flags).2)

/-- INC or DEC of the byte at `a` stores its result there (R232, R233). -/
theorem stored_stepMem {s : State} (hm : s.mem.wf = true) (op : Byte → Flags → Byte × Flags) (a b : Word) :
    stored (stepMem op a s) b =
      if b = a ∧ memKind s.platform a = .ram then (op (peek s a) s.flags).1 else stored s b :=
  stored_memWrite (s := (memRead a s).2.withFlags (op (peek s a) s.flags).2) hm a b _

section

variable {i : Instr} {s : State} {n : Nat} {step : Byte → Flags → Byte × Flags} {op : Byte → Byte}
  {law : Byte → Flags → Flags → Prop} (hstep : ∀ v f, (step v f).1 = op v ∧ law v f (step v f).2)

include hstep

/-- A row that steps a register writes it, the flags and T (R232, R233). -/
theorem stepReg_of_exec {r : Reg8} (h : exec i s = .next (charge (s.cost i n) (stepReg step r s))) :
    ∃ f, Completes i s n { s with regs := s.regs.set8 r (op (s.regs.get8 r)), flags := f } ∧
      law (s.regs.get8 r) s.flags f := by
  obtain ⟨hres, hlaw⟩ := hstep (s.regs.get8 r) s.flags
  exact ⟨_, hres ▸ h, hlaw⟩

/-- A row that steps an index half writes it, the flags and T (R232, R233). -/
theorem stepHalf_of_exec {x : Index} {p : Half} (h : exec i s = .next (charge (s.cost i n) (stepHalf step x p s))) :
    ∃ f, Completes i s n { s with regs := s.regs.setHalf x p (op (s.regs.getHalf x p)), flags := f } ∧
      law (s.regs.getHalf x p) s.flags f := by
  obtain ⟨hres, hlaw⟩ := hstep (s.regs.getHalf x p) s.flags
  exact ⟨_, hres ▸ h, hlaw⟩

/-- A row that steps the byte at `a` writes it, where it is RAM, the flags, T, the count of free values and the trace
(R232, R233). -/
theorem stepMem_of_exec {a : Word} (hm : s.mem.wf = true) (h : exec i s = .next (charge n (stepMem step a s))) :
    ∃ u f, exec i s = .next u ∧ Stores s u a (op (peek s a)) ∧
      u = { s with
        flags := f, t := s.t + n, draws := s.draws + drawsOf s a, mem := u.mem, trace := u.trace } ∧
      law (peek s a) s.flags f := by
  obtain ⟨hres, hlaw⟩ := hstep (peek s a) s.flags
  exact ⟨_, _, h, fun b => hres ▸ stored_stepMem hm step a b, congrArg (charge n) (stepMem_state step a s), hlaw⟩

end

/-- Settles O40: a form steps a register, an index half or the byte at its address by `inc8` or `dec8`. -/
theorem incDec8 : Obligations.IncDec8 := fun s hm =>
  ⟨⟨fun _ => stepReg_of_exec inc8_spec rfl,
      fun x p => stepHalf_of_exec inc8_spec (by cases x <;> cases p <;> rfl),
      stepMem_of_exec inc8_spec hm rfl,
      fun x d => stepMem_of_exec inc8_spec hm (by cases x <;> rfl)⟩,
    ⟨fun _ => stepReg_of_exec dec8_spec rfl,
      fun x p => stepHalf_of_exec dec8_spec (by cases x <;> cases p <;> rfl),
      stepMem_of_exec dec8_spec hm rfl,
      fun x d => stepMem_of_exec dec8_spec hm (by cases x <;> rfl)⟩⟩

end Sys2Proof.Machine

/-! SUPPORT. The general group (spec/44_general.md R250 to R262): DAA in arithmetic and on the sum and the difference of
packed decimals, the other operations on A and C, the CPU control instructions, and the interrupt phase right after EI
or DI (60_exceptions.md R406). -/

namespace Sys2Proof.Machine

open Sys2Proof.Claim

/-! ## DAA -/

section

variable (a : Byte) (f : Flags)

/-- What DAA adds or subtracts (R250): 6 for the low digit and 0x60 for the high one. -/
def decimalAdjustment : Nat :=
  (if f.hf = true ∨ 9 < a.toNat % 16 then 0x06 else 0) + (if f.cf = true ∨ 0x99 < a.toNat then 0x60 else 0)

/-- The result of DAA (R250). -/
theorem daa_toNat :
    ((daa a f).1.toNat : Int) =
      (if f.nf then (a.toNat : Int) - decimalAdjustment a f else a.toNat + decimalAdjustment a f) % 256 := by
  have diff : ((if f.hf || decide (9 < (a &&& 0x0F).toNat) then 0x06 else 0 : Byte) |||
      (if f.cf || decide (0x99 < a.toNat) then 0x60 else 0)).toNat = decimalAdjustment a f := by
    simp only [decimalAdjustment, lowDigit_toNat, Bool.or_eq_true, decide_eq_true_eq]
    split <;> split <;> rfl
  simp only [daa, gt_iff_lt]
  rw [← diff]
  split
  · rw [BitVec.toNat_sub]
    omega
  · rw [BitVec.toNat_add]
    omega

/-- The carry of DAA is set where the high digit was adjusted (R250). -/
theorem daa_cf : (daa a f).2.cf = true ↔ f.cf = true ∨ 0x99 < a.toNat := by
  simp [daa]

/-- The half carry of DAA (R250). -/
theorem daa_hf : (daa a f).2.hf = true ↔ if f.nf then f.hf = true ∧ a.toNat % 16 < 6 else 9 < a.toNat % 16 := by
  simp only [daa, lowDigit_toNat]
  split <;> simp

end

theorem exec_daa (s : State) :
    exec .daa s = .next (charge (s.cost .daa 4) (toA (daa s.regs.a s.flags) s)) := rfl

/-- Settles O41: the four cases of R250 give the adjustment that `daa_toNat` speaks of. -/
theorem decimalAdjust : Obligations.DecimalAdjust := by
  intro s a low high
  refine ⟨_, _, exec_daa s, fun diff both onlyLow onlyHigh neither => ?_, daa_hf _ _, daa_cf _ _, rfl,
    ⟨rfl, decide_eq_true_iff, rfl, rfl⟩, parity_spec _⟩
  have hdiff : diff = decimalAdjustment s.regs.a s.flags := by
    by_cases hl : low <;> by_cases hh : high
    · exact (both hl hh).trans (by rw [decimalAdjustment, if_pos hl, if_pos hh])
    · exact (onlyLow hl hh).trans (by rw [decimalAdjustment, if_pos hl, if_neg hh])
    · exact (onlyHigh hl hh).trans (by rw [decimalAdjustment, if_neg hl, if_pos hh])
    · exact (neither hl hh).trans (by rw [decimalAdjustment, if_neg hl, if_neg hh])
  exact hdiff ▸ daa_toNat s.regs.a s.flags

/-! ## Decimal arithmetic -/

/-- Two decimal digits as a packed byte. -/
theorem packedDecimal_digits {k j : Nat} (hk : k < 10) (hj : j < 10) :
    (packedDecimal (10 * k + j)).toNat = 16 * k + j := by
  rw [packedDecimal, BitVec.toNat_ofNat]
  omega

/-- The low digit of a packed byte. -/
theorem packedDecimal_mod {k j : Nat} (hk : k < 10) (hj : j < 10) :
    (packedDecimal (10 * k + j)).toNat % 16 = j := by
  rw [packedDecimal_digits hk hj]
  omega

/-- A number below 100 has two decimal digits. -/
theorem exists_digits {x : Nat} (hx : x < 100) : ∃ p q, x = 10 * p + q ∧ p < 10 ∧ q < 10 :=
  ⟨x / 10, x % 10, by omega, by omega, by omega⟩

/-- The sum of two decimal digits and a carry is a digit and a carry. -/
theorem digit_sum {p m : Nat} (hp : p < 10) (hm : m < 10) (c : Bool) :
    ∃ (carry : Bool) (k : Nat), k < 10 ∧ p + m + c.toNat = 10 * carry.toNat + k := by
  have hc := c.toNat_le
  by_cases h : p + m + c.toNat < 10
  · exact ⟨false, _, h, (Nat.zero_add _).symm⟩
  · exact ⟨true, p + m + c.toNat - 10, by omega, (Nat.add_sub_cancel' (not_lt.mp h)).symm⟩

/-- The difference of two decimal digits and a borrow is a digit and a borrow. -/
theorem digit_difference {p m : Nat} (hp : p < 10) (hm : m < 10) (c : Bool) :
    ∃ (borrow : Bool) (k : Nat), k < 10 ∧ 10 * borrow.toNat + p = m + c.toNat + k := by
  have hc := c.toNat_le
  by_cases h : m + c.toNat ≤ p
  · exact ⟨false, p - (m + c.toNat), by omega, (Nat.zero_add _).trans (Nat.add_sub_cancel' h).symm⟩
  · exact ⟨true, 10 + p - (m + c.toNat), by omega, (Nat.add_sub_cancel' (show m + c.toNat ≤ 10 + p by omega)).symm⟩

/-- The adjustment where `low` says that the low digit is adjusted and `high` that the high one is. -/
theorem decimalAdjustment_eq {a : Byte} {f : Flags} {low high : Bool}
    (hlow : f.hf = true ∨ 9 < a.toNat % 16 ↔ low = true) (hhigh : f.cf = true ∨ 0x99 < a.toNat ↔ high = true) :
    decimalAdjustment a f = 6 * low.toNat + 96 * high.toNat := by
  simp only [decimalAdjustment, hlow, hhigh]
  cases low <;> cases high <;> rfl

/-- A sum exceeds `n` where it carries or its remainder exceeds `n`. -/
theorem carry_or_lt_mod {n w t : Nat} (hn : n < w) : w ≤ t ∨ n < t % w ↔ n < t := by
  by_cases h : w ≤ t
  · exact iff_of_true (.inl h) (hn.trans_le h)
  · rw [Nat.mod_eq_of_lt (not_le.mp h), or_iff_right h]

/-- The remainder of a difference from a number that does not exceed `n` exceeds `n` only where it borrows. -/
theorem borrow_or_lt_emod {n w a b r : Nat} (hn : n < w) (ha : a ≤ n) (hr : (r : Int) = ((a : Int) - b) % w) :
    a < b ∨ n < r ↔ a < b := by
  refine or_iff_left_of_imp fun h => ?_
  by_contra hab
  rw [Int.emod_eq_of_lt (by omega) (by omega)] at hr
  omega

section

variable {x y : Nat} (hx : x < 100) (hy : y < 100) {c : Bool} {res : Byte} {f : Flags}

include hx hy

/-- DAA makes the sum of two packed decimals decimal: it adjusts the digits that carry in the decimal sum. -/
theorem daa_of_sum8 (h : Sum8 (packedDecimal x) (packedDecimal y) c res f) :
    (daa res f).2.cf = decide (100 ≤ x + y + c.toNat) ∧
      (daa res f).1 = packedDecimal ((x + y + c.toNat) % 100) := by
  obtain ⟨p, q, rfl, hp, hq⟩ := exists_digits hx
  obtain ⟨m, n, rfl, hm, hn⟩ := exists_digits hy
  obtain ⟨low, j, hj, hlow⟩ := digit_sum hq hn c
  obtain ⟨high, k, hk, hhigh⟩ := digit_sum hp hm low
  have hlow1 := low.toNat_le
  have hhigh1 := high.toNat_le
  have hsum : 10 * p + q + (10 * m + n) + c.toNat = 100 * high.toNat + (10 * k + j) := by omega
  obtain ⟨hres, hcf, hhf, -, hnf, -⟩ := h
  rw [packedDecimal_digits hp hq, packedDecimal_digits hm hn] at hres hcf
  rw [packedDecimal_mod hp hq, packedDecimal_mod hm hn] at hhf
  have hl : f.hf = true ∨ 9 < res.toNat % 16 ↔ low = true := by
    have hdigit : res.toNat % 16 = (q + n + c.toNat) % 16 := by omega
    rw [hhf, hdigit, carry_or_lt_mod (by decide), ← Bool.toNat_eq_one]
    omega
  have hh : f.cf = true ∨ 0x99 < res.toNat ↔ high = true := by
    rw [hcf, hres, carry_or_lt_mod (by decide), ← Bool.toNat_eq_one]
    omega
  have hdaa := daa_toNat res f
  rw [if_neg (Bool.eq_false_iff.mp hnf), decimalAdjustment_eq hl hh] at hdaa
  rw [hsum]
  refine ⟨?_, BitVec.eq_of_toNat_eq ?_⟩
  · rw [Bool.eq_iff_iff, daa_cf, hh, decide_eq_true_iff, ← Bool.toNat_eq_one]
    omega
  · rw [Nat.mul_add_mod, Nat.mod_eq_of_lt (by omega), packedDecimal_digits hk hj]
    omega

/-- DAA makes the difference of two packed decimals decimal: it adjusts the digits that borrow in the decimal
difference. -/
theorem daa_of_difference8 (h : Difference8 (packedDecimal x) (packedDecimal y) c res f) :
    (daa res f).2.cf = decide (x < y + c.toNat) ∧
      (daa res f).1 = packedDecimal ((x + 100 - y - c.toNat) % 100) := by
  obtain ⟨p, q, rfl, hp, hq⟩ := exists_digits hx
  obtain ⟨m, n, rfl, hm, hn⟩ := exists_digits hy
  obtain ⟨low, j, hj, hlow⟩ := digit_difference hq hn c
  obtain ⟨high, k, hk, hhigh⟩ := digit_difference hp hm low
  have hlow1 := low.toNat_le
  have hhigh1 := high.toNat_le
  have hdiff : 100 * high.toNat + (10 * p + q) = 10 * m + n + c.toNat + (10 * k + j) := by omega
  obtain ⟨hres, hcf, hhf, -, hnf, -⟩ := h
  rw [packedDecimal_digits hp hq, packedDecimal_digits hm hn] at hres hcf
  rw [packedDecimal_mod hp hq, packedDecimal_mod hm hn] at hhf
  have hl : f.hf = true ∨ 9 < res.toNat % 16 ↔ low = true := by
    rw [hhf, borrow_or_lt_emod (w := 16) (by decide) (by omega) (by omega), ← Bool.toNat_eq_one]
    omega
  have hh : f.cf = true ∨ 0x99 < res.toNat ↔ high = true := by
    rw [hcf, borrow_or_lt_emod (w := 256) (by decide) (by omega) (by omega), ← Bool.toNat_eq_one]
    omega
  have hdaa := daa_toNat res f
  rw [if_pos hnf, decimalAdjustment_eq hl hh] at hdaa
  refine ⟨?_, BitVec.eq_of_toNat_eq ?_⟩
  · rw [Bool.eq_iff_iff, daa_cf, hh, decide_eq_true_iff, ← Bool.toNat_eq_one]
    omega
  · have hmod : (10 * p + q + 100 - (10 * m + n) - c.toNat) % 100 = 10 * k + j := by omega
    rw [hmod, packedDecimal_digits hk hj]
    omega

end

/-- A row that runs to a result in A and the flags ends with these. -/
theorem result_of_exec {i : Instr} {s u : State} {n : Nat} {r : Byte × Flags}
    (hi : exec i s = .next (charge n (toA r s))) (h : exec i s = .next u) : u.regs.a = r.1 ∧ u.flags = r.2 := by
  cases hi.symm.trans h
  exact ⟨rfl, rfl⟩

/-- Settles O42: DAA runs on the result and the flags of `add8` or `sub8`. -/
theorem decimalArithmetic : Obligations.DecimalArithmetic := by
  intro s t u x y hx hy hax hu
  obtain ⟨hua, huf⟩ := result_of_exec (exec_daa t) hu
  rw [hua, huf]
  constructor <;> intro ht
  · obtain ⟨hta, htf⟩ := result_of_exec (r := add8 s.regs.a (packedDecimal y) s.flags.cf) (exec_aluImm 1 _ s) ht
    rw [hta, htf, hax]
    exact daa_of_sum8 hx hy (add8_sum8 ..)
  · obtain ⟨hta, htf⟩ := result_of_exec (r := sub8 s.regs.a (packedDecimal y) s.flags.cf) (exec_aluImm 3 _ s) ht
    rw [hta, htf, hax]
    exact daa_of_difference8 hx hy (sub8_difference8 ..)

/-! ## CPL, NEG, CCF and SCF -/

/-- CPL's exclusive or with 0xFF is the complement (R251). -/
theorem xor_ff_toNat (v : Byte) : (v ^^^ 0xFF).toNat = 255 - v.toNat := by
  rw [show (0xFF : Byte) = BitVec.allOnes 8 from rfl, BitVec.xor_allOnes, BitVec.toNat_not]

theorem exec_neg (x : BitVec 3) (s : State) :
    exec (.neg x) s = .next (charge (s.cost (.neg x) 8) (toA (sub8 0 s.regs.a false) s)) := rfl

/-- A row that runs to a result in A and the flags writes these and T. -/
theorem toA_of_exec {i : Instr} {s : State} {n : Nat} {r : Byte × Flags} {law : Byte → Flags → Prop}
    (h : exec i s = .next (charge (s.cost i n) (toA r s))) (hlaw : law r.1 r.2) : ToA i s s n law :=
  ⟨r.1, r.2, h, hlaw⟩

/-- Settles O43: CPL and NEG write A and the flags, CCF and SCF the flags. -/
theorem accumulatorOps : Obligations.AccumulatorOps := fun s =>
  ⟨⟨s.regs.a ^^^ 0xFF, xor_ff_toNat s.regs.a, rfl⟩, fun x => toA_of_exec (exec_neg x s) (sub8_difference8 ..), rfl, rfl⟩

/-! ## CPU control -/

/-- Settles O44: each meaning is one update of the state and its T-states. -/
theorem cpuControl : Obligations.CpuControl := fun _ =>
  ⟨rfl, rfl, rfl, rfl, fun _ _ => rfl, fun _ => rfl, fun _ => rfl, fun _ => rfl⟩

/-- With `eidi` set the interrupt phase comes no further than the NMI (R406). -/
theorem interruptPhase_of_eidi {t : State} (hp : t.afterPrefix = false) (he : t.eidi = true) :
    (interruptPhase t).1 = t.nmiPending := by
  cases hn : t.nmiPending <;> simp [interruptPhase, hp, he, hn]

/-- Settles O15: EI and DI set `eidi` and leave `afterPrefix`. -/
theorem eiShadow : Obligations.EiShadow := by
  rintro s t hp (h | h) <;> cases h
  · exact interruptPhase_of_eidi hp rfl
  · exact interruptPhase_of_eidi hp rfl

end Sys2Proof.Machine

/-! SUPPORT. The 16-bit arithmetic (spec/45_alu16.md R270 to R274): the flags of ADC, SBC and ADD in arithmetic, and the
rows of IX and IY. -/

namespace Sys2Proof.Machine

open Sys2Proof.Claim

/-! ## The flags in arithmetic -/

/-- The sum of R271. -/
theorem adc16_sum16 (a b : Word) (c : Bool) : Sum16 a b c (adc16 a b c).1 (adc16 a b c).2 := by
  obtain ⟨hres, hcf, hhf, hpf⟩ := adc16_spec a b c
  rw [bitNat_eq] at hres hcf hhf hpf
  exact ⟨hres, hcf, hhf, hpf, rfl, rfl, decide_eq_true_iff, rfl, rfl⟩

/-- The difference of R272. -/
theorem sbc16_difference16 (a b : Word) (c : Bool) : Difference16 a b c (sbc16 a b c).1 (sbc16 a b c).2 := by
  obtain ⟨hres, hcf, hhf, hpf⟩ := sbc16_spec a b c
  rw [bitNat_eq] at hres hcf hhf hpf
  exact ⟨hres, hcf, hhf, hpf, rfl, rfl, decide_eq_true_iff, rfl, rfl⟩

/-- ADD is ADC without a carry but for S, Z and P, which it leaves (R270). -/
theorem add16_eq_adc16 (a b : Word) (f : Flags) :
    add16 a b f = ((adc16 a b false).1, { (adc16 a b false).2 with sf := f.sf, zf := f.zf, pf := f.pf }) := rfl

/-- The sum of R270: H, C, Y and X from the sum without a carry, N clear, S, Z and P unchanged. -/
theorem add16_sum16 (a b : Word) (f : Flags) :
    ∃ f16, Sum16 a b false (add16 a b f).1 f16 ∧
      (add16 a b f).2 = { f with hf := f16.hf, nf := false, cf := f16.cf, yf := f16.yf, xf := f16.xf } := by
  rw [add16_eq_adc16]
  exact ⟨(adc16 a b false).2, adc16_sum16 a b false, rfl⟩

/-! ## The rows of HL, IX and IY -/

section

variable (x : Index) (s : State)

theorem exec_addXP (p : XPair) :
    exec (x.sel (.addIxP p) (.addIyP p)) s =
      .next (charge (s.cost (x.sel (.addIxP p) (.addIyP p)) 15) (addIndex x p s)) := by
  cases x <;> rfl

theorem exec_incX :
    exec (x.sel .incIx .incIy) s =
      .next (charge (s.cost (x.sel .incIx .incIy) 10) (s.withRegs (s.regs.setIndex x (s.regs.getIndex x + 1)))) := by
  cases x <;> rfl

theorem exec_decX :
    exec (x.sel .decIx .decIy) s =
      .next (charge (s.cost (x.sel .decIx .decIy) 10) (s.withRegs (s.regs.setIndex x (s.regs.getIndex x - 1)))) := by
  cases x <;> rfl

end

/-- A row that runs to a result in HL and the flags writes these and T. -/
theorem toHl_of_exec {i : Instr} {s : State} {n : Nat} {r : Word × Flags} {law : Word → Flags → Prop}
    (h : exec i s = .next (charge (s.cost i n) (toHl r s))) (hlaw : law r.1 r.2) :
    ∃ res f, Completes i s n { s with regs := s.regs.setHl res, flags := f } ∧ law res f :=
  ⟨r.1, r.2, h, hlaw⟩

/-- Settles O45: ADD, ADC and SBC write `add16`, `adc16` and `sbc16` of their operands and the flags; INC and DEC are
one register write. -/
theorem arithmetic16 : Obligations.Arithmetic16 := fun s =>
  ⟨fun _ => toHl_of_exec rfl (add16_sum16 ..), fun x p => ⟨_, _, exec_addXP x s p, add16_sum16 ..⟩,
    fun _ => toHl_of_exec rfl (adc16_sum16 ..), fun _ => toHl_of_exec rfl (sbc16_difference16 ..),
    fun _ => rfl, fun _ => rfl, fun x => exec_incX x s, fun x => exec_decX x s⟩

end Sys2Proof.Machine

/-! SUPPORT. The rotates and shifts (spec/46_rotate_shift.md R290 to R304): their results and the bit that goes to C in
arithmetic, what a form on A, on a register and on memory writes, and the digit rotates. -/

namespace Sys2Proof.Machine

open Sys2Proof.Claim

/-! ## Bytes made of two parts -/

/-- An or of bytes that share no bit, the one a multiple of `2 ^ k` and the other below it, is their sum. -/
theorem or_toNat_of_lt {h l : Byte} {k x : Nat} (hh : h.toNat = 2 ^ k * x) (hl : l.toNat < 2 ^ k) :
    (h ||| l).toNat = 2 ^ k * x + l.toNat := by
  rw [BitVec.toNat_or, hh, Nat.two_pow_add_eq_or_of_lt hl]

/-- A byte shifted left by one: twice the byte and the bit that comes in, modulo 2^8. -/
theorem shl1_toNat (v : Byte) (low : Bool) : (shl1 v low).toNat = (2 * v.toNat + low.toNat) % 256 := by
  have hv : (v <<< 1).toNat = 2 ^ 1 * (v.toNat % 128) := by
    rw [BitVec.toNat_shiftLeft, Nat.shiftLeft_eq]
    omega
  have hlow : (bitAt low 0).toNat = low.toNat := by cases low <;> rfl
  rw [shl1, or_toNat_of_lt hv (hlow ▸ Bool.toNat_lt low), hlow]
  have := Bool.toNat_lt low
  omega

/-- A byte shifted right by one: half the byte and the bit that comes in at the top. -/
theorem shr1_toNat (v : Byte) (high : Bool) : (shr1 v high).toNat = v.toNat / 2 + 128 * high.toNat := by
  have hhigh : (bitAt high 7).toNat = 2 ^ 7 * high.toNat := by cases high <;> rfl
  have hv : (v >>> 1).toNat = v.toNat / 2 := Nat.shiftRight_one _
  have hlt : (v >>> 1).toNat < 2 ^ 7 := by have := v.isLt; omega
  rw [shr1, BitVec.or_comm, or_toNat_of_lt hhigh hlt, hv]
  omega

/-- Bit 7 of a byte, as a number. -/
theorem bit7_toNat (v : Byte) : (v.getLsbD 7).toNat = v.toNat / 128 := by
  have := v.isLt
  rw [BitVec.getLsbD, Nat.toNat_testBit]
  omega

/-- Bit 0 of a byte, as a number. -/
theorem bit0_toNat (v : Byte) : (v.getLsbD 0).toNat = v.toNat % 2 := by
  rw [BitVec.getLsbD, Nat.toNat_testBit]
  omega

/-! ## The results and the flags -/

/-- `rotate` follows its rule: a shift to the left sends bit 7 to C, a shift to the right bit 0 (R295 to R302). -/
theorem rotate_rotateLaw (op : RotOp) (v : Byte) (c : Bool) :
    RotateLaw op v c (rotate op v c).1 (rotate op v c).2 := by
  have bit7 : v.getLsbD 7 = decide (128 ≤ v.toNat) := BitVec.msb_eq_decide v
  have bit0 : v.getLsbD 0 = decide (v.toNat % 2 = 1) := Nat.testBit_zero v.toNat
  cases op with
  | rlc => exact ⟨bit7_toNat v ▸ shl1_toNat v _, bit7⟩
  | rrc => exact ⟨bit0_toNat v ▸ shr1_toNat v _, bit0⟩
  | rl => exact ⟨shl1_toNat v c, bit7⟩
  | rr => exact ⟨shr1_toNat v c, bit0⟩
  | sla => exact ⟨shl1_toNat v false, bit7⟩
  | sra => exact ⟨bit7_toNat v ▸ shr1_toNat v _, bit0⟩
  | sll => exact ⟨shl1_toNat v true, bit7⟩
  | srl => exact ⟨shr1_toNat v false, bit0⟩

/-- The flags of R295. -/
theorem rotFlags_rotateFlags (res : Byte) (c : Bool) : RotateFlags res c (rotFlags res c) :=
  ⟨⟨rfl, decide_eq_true_iff, rfl, rfl⟩, rfl, parity_spec res, rfl, rfl⟩

/-- The flags of R303. -/
theorem inFlags_byteFlags (v : Byte) (f : Flags) : ByteFlags v f (inFlags v f) :=
  ⟨⟨rfl, decide_eq_true_iff, rfl, rfl⟩, rfl, parity_spec v, rfl, rfl⟩

/-! ## The rows by their operation -/

section

variable (op : RotOp) (x : Index) (d : Byte) (r : Reg8) (s : State)

theorem exec_rotReg :
    exec (rotReg (rotCode op) r) s = .next (charge (s.cost (rotReg (rotCode op) r) 8) (rotateReg op r s)) := by
  cases op <;> rfl

theorem exec_rotAtHl :
    exec (rotAtHl (rotCode op)) s = .next (charge (s.cost (rotAtHl (rotCode op)) 15) (rotateAtHl op s)) := by
  cases op <;> rfl

theorem exec_rotIndexed :
    exec (x.sel (rotAtIx (rotCode op) d) (rotAtIy (rotCode op) d)) s =
      .next (charge (s.cost (x.sel (rotAtIx (rotCode op) d) (rotAtIy (rotCode op) d)) 23)
        (rotateIndexed op x d s)) := by
  cases x <;> cases op <;> rfl

theorem exec_rotIndexedCopy :
    exec (x.sel (rotAtIxR (rotCode op) d r) (rotAtIyR (rotCode op) d r)) s =
      .next (charge (s.cost (x.sel (rotAtIxR (rotCode op) d r) (rotAtIyR (rotCode op) d r)) 23)
        (rotateIndexedCopy op x d r s)) := by
  cases x <;> cases op <;> rfl

end

/-! ## What a rotate or shift writes -/

/-- A rotate of the byte at `a` changes the flags, memory, the count of free values and the trace (R294). -/
theorem rotateMem_state (op : RotOp) (a : Word) (s : State) :
    (rotateMem op a s).2 =
      { s with
        flags := rotFlags (rotate op (peek s a) s.flags.cf).1 (rotate op (peek s a) s.flags.cf).2
        draws := s.draws + drawsOf s a
        mem := (rotateMem op a s).2.mem
        trace := (rotateMem op a s).2.trace } :=
  writeAs_state true a _ ((memRead a s).2.withFlags _)

@[simp] theorem rotateMem_regs (op : RotOp) (a : Word) (s : State) : (rotateMem op a s).2.regs = s.regs :=
  (congrArg State.regs (rotateMem_state op a s) :)

/-- A rotate of the byte at `a` stores its result there (R294). -/
theorem stored_rotateMem {s : State} (hm : s.mem.wf = true) (op : RotOp) (a b : Word) :
    stored (rotateMem op a s).2 b =
      if b = a ∧ memKind s.platform a = .ram then (rotate op (peek s a) s.flags.cf).1 else stored s b :=
  stored_memWrite (s := (memRead a s).2.withFlags _) hm a b _

section

variable {i : Instr} {s : State} {op : RotOp} {n : Nat}

/-- A row that rotates A writes it, Y, H, X, N and C, and T (R290 to R293). -/
theorem rotateA_of_exec (h : exec i s = .next (charge (s.cost i n) (rotateA op s))) :
    ∃ res out, RotateLaw op s.regs.a s.flags.cf res out ∧ Completes i s n { s with
      regs := { s.regs with a := res }
      flags := { s.flags with
        yf := res.getLsbD 5, hf := false, xf := res.getLsbD 3, nf := false, cf := out } } :=
  ⟨_, _, rotate_rotateLaw op s.regs.a s.flags.cf, h⟩

/-- A row that rotates the register `r` writes it, the flags and T (R294). -/
theorem rotateReg_of_exec {r : Reg8} (h : exec i s = .next (charge (s.cost i n) (rotateReg op r s))) :
    ∃ f res out, RotateLaw op (s.regs.get8 r) s.flags.cf res out ∧ RotateFlags res out f ∧
      Completes i s n { s with regs := s.regs.set8 r res, flags := f } :=
  ⟨_, _, _, rotate_rotateLaw op (s.regs.get8 r) s.flags.cf, rotFlags_rotateFlags .., h⟩

/-- A row that rotates the byte at `a` and then has the registers `g` of the result writes the byte, where it is RAM,
these, the flags, T, the count of free values and the trace (R294). -/
theorem rotateMem_of_exec {a : Word} {u : State} {g : Byte → Regs} (hm : s.mem.wf = true)
    (h : exec i s = .next (charge n u))
    (hu : u = (rotateMem op a s).2.withRegs (g (rotateMem op a s).1)) :
    ∃ u f res out, RotateLaw op (peek s a) s.flags.cf res out ∧ RotateFlags res out f ∧
      exec i s = .next u ∧ Stores s u a res ∧
      u = { s with
        regs := g res, flags := f, t := s.t + n, draws := s.draws + drawsOf s a
        mem := u.mem, trace := u.trace } := by
  subst hu
  exact ⟨_, _, _, _, rotate_rotateLaw op (peek s a) s.flags.cf, rotFlags_rotateFlags .., h, stored_rotateMem hm op a,
    congrArg (fun t => charge n (t.withRegs (g (rotateMem op a s).1))) (rotateMem_state op a s)⟩

end

/-- Without a copy the registers after a rotate in memory are those before it. -/
theorem rotateMem_eq_withRegs (op : RotOp) (a : Word) (s : State) :
    (rotateMem op a s).2 = (rotateMem op a s).2.withRegs s.regs := by
  rw [← rotateMem_regs op a s]
  rfl

/-- The copy writes the result to `r` in the registers before the instruction (R294). -/
theorem rotateIndexedCopy_eq_withRegs (op : RotOp) (x : Index) (d : Byte) (r : Reg8) (s : State) :
    rotateIndexedCopy op x d r s =
      (rotateMem op (s.regs.indexed x d) s).2.withRegs
        (s.regs.set8 r (rotateMem op (s.regs.indexed x d) s).1) := by
  rw [rotateIndexedCopy, State.setReg8, rotateMem_regs]

/-- Settles O46: a form on A is `rotateA`, one on a register `rotateReg`, one on memory `rotateMem` at its address and
then the copy, if any; each gives the result of `rotate`. -/
theorem rotateShift : Obligations.RotateShift := fun s hm =>
  ⟨rotateA_of_exec rfl, rotateA_of_exec rfl, rotateA_of_exec rfl, rotateA_of_exec rfl,
    fun op r => rotateReg_of_exec (exec_rotReg op r s),
    fun op => rotateMem_of_exec hm (exec_rotAtHl op s) (rotateMem_eq_withRegs ..),
    fun op x d => rotateMem_of_exec hm (exec_rotIndexed op x d s) (rotateMem_eq_withRegs ..),
    fun op x d r =>
      rotateMem_of_exec hm (exec_rotIndexedCopy op x d r s) (rotateIndexedCopy_eq_withRegs op x d r s)⟩

/-! ## RLD and RRD -/

/-- The high digit of a byte in its place, as a number. -/
theorem highDigit_toNat (v : Byte) : (v &&& 0xF0).toNat = 2 ^ 4 * (v.toNat / 16) := by
  revert v
  decide

/-- A byte put together from its two digits. -/
theorem or_eq_ofNat_of_digits {h l : Byte} {x y : Nat} (hh : h.toNat = 2 ^ 4 * x) (hl : l.toNat = y) (hy : y < 16) :
    h ||| l = BitVec.ofNat 8 (x * 16 + y) := by
  have := h.isLt
  apply BitVec.eq_of_toNat_eq
  rw [or_toNat_of_lt hh (hl ▸ hy), hl, BitVec.toNat_ofNat]
  omega

/-- The low digit of a byte moved to the high place. -/
theorem shiftLeft4_toNat (v : Byte) : (v <<< 4).toNat = 2 ^ 4 * (v.toNat % 16) := by
  rw [BitVec.toNat_shiftLeft, Nat.shiftLeft_eq]
  omega

/-- The high digit of a byte moved to the low place. -/
theorem ushiftRight4_toNat (v : Byte) : (v >>> 4).toNat = v.toNat / 16 := Nat.shiftRight_eq_div_pow v.toNat 4

theorem highDigit_lt (v : Byte) : v.toNat / 16 < 16 := Nat.div_lt_of_lt_mul v.isLt

theorem lowDigit_lt (v : Byte) : v.toNat % 16 < 16 := Nat.mod_lt _ (by decide)

/-- RLD and RRD write A, the flags, memory, the count of free values and the trace (R303, R304). -/
theorem digitResult_state (w v : Byte) (a : Word) (s : State) :
    digitResult w (memWrite a v (memRead a s).2) =
      { s with
        regs := { s.regs with a := w }
        flags := inFlags w s.flags
        draws := s.draws + drawsOf s a
        mem := (memWrite a v (memRead a s).2).mem
        trace := (memWrite a v (memRead a s).2).trace } := by
  rw [memWrite, writeAs_state]
  rfl

/-- A row that stores `v` at HL and ends with `digitResult` writes A, the byte at HL where it is RAM, the flags from A,
T, the count of free values and the trace (R303, R304). -/
theorem digitRotate_of_exec {i : Instr} {s : State} {n p q : Nat} {w v : Byte} (hm : s.mem.wf = true)
    (h : exec i s = .next (charge n (digitResult w (memWrite s.regs.hl v (memRead s.regs.hl s).2))))
    (hw : w = BitVec.ofNat 8 p) (hv : v = BitVec.ofNat 8 q) :
    ∃ u f, exec i s = .next u ∧ Stores s u s.regs.hl (BitVec.ofNat 8 q) ∧
      u = { s with
        regs := { s.regs with a := BitVec.ofNat 8 p }, flags := f, t := s.t + n
        draws := s.draws + drawsOf s s.regs.hl, mem := u.mem, trace := u.trace } ∧
      ByteFlags (BitVec.ofNat 8 p) s.flags f := by
  subst hw hv
  exact ⟨_, _, h, fun b => stored_memWrite (s := (memRead s.regs.hl s).2) hm s.regs.hl b _,
    congrArg (charge n) (digitResult_state _ _ s.regs.hl s), inFlags_byteFlags ..⟩

/-- Settles O47: RLD and RRD put A and the byte at HL together from the same digits in two orders; A keeps its high
one. -/
theorem digitRotate : Obligations.DigitRotate := fun _ hm =>
  ⟨digitRotate_of_exec hm rfl
      (or_eq_ofNat_of_digits (highDigit_toNat _) (ushiftRight4_toNat _) (highDigit_lt _))
      (or_eq_ofNat_of_digits (shiftLeft4_toNat _) (lowDigit_toNat _) (lowDigit_lt _)),
    digitRotate_of_exec hm rfl
      (or_eq_ofNat_of_digits (highDigit_toNat _) (lowDigit_toNat _) (lowDigit_lt _))
      (or_eq_ofNat_of_digits (shiftLeft4_toNat _) (ushiftRight4_toNat _) (highDigit_lt _))⟩

end Sys2Proof.Machine

/-! SUPPORT. The interrupt phase by its cases, and how an iteration ends (spec/60_exceptions.md R400, R404 to R413). -/

namespace Sys2Proof.Machine

open Sys2Proof.Claim

/-! ## The interrupt phase, case by case -/

section

variable {s : State} {id : SourceId}

theorem interruptPhase_of_afterPrefix (h : s.afterPrefix = true) : interruptPhase s = (false, .next s) := by
  simp [interruptPhase, h]

theorem interruptPhase_of_nmi (hp : s.afterPrefix = false) (hn : s.nmiPending = true) :
    interruptPhase s = (true, .next (acceptNmi { s with eidi := false })) := by
  simp [interruptPhase, hp, hn]

/-- The scan reads the chips only. -/
theorem scanSources_congr {u : State} (hc : u.ctcs = s.ctcs) (hp : u.pios = s.pios) (ids : List SourceId) :
    scanSources u ids = scanSources s ids := by
  have haccepted : sourceAccepted u = sourceAccepted s := by
    unfold sourceAccepted
    rw [hc, hp]
  have hrequests : sourceRequests u = sourceRequests s := by
    unfold sourceRequests
    rw [hc, hp]
  induction ids with
  | nil => rfl
  | cons id rest ih => rw [scanSources, haccepted, hrequests, ih, scanSources]

/-- `Services` is the scan of R407 where nothing comes before it. -/
theorem services_iff :
    Services s id ↔ s.nmiPending = false ∧ s.afterPrefix = false ∧ s.eidi = false ∧ s.iff1 = true ∧
      scanSources s s.platform.intSources = some id := by
  rw [scanSources_spec]
  constructor
  · rintro ⟨hn, hp, he, hi, hreq, hacc, before, after, hids, hbefore⟩
    exact ⟨hn, hp, he, hi, before, after, hids, hreq, hacc, hbefore⟩
  · rintro ⟨hn, hp, he, hi, before, after, hids, hreq, hacc, hbefore⟩
    exact ⟨hn, hp, he, hi, hreq, hacc, before, after, hids, hbefore⟩

/-- With no NMI and no prefix-chain step the phase scans, unless EI or DI came just before or IFF1 is clear (R404,
R406). -/
theorem interruptPhase_of_scan (hp : s.afterPrefix = false) (hn : s.nmiPending = false) :
    interruptPhase s =
      match if s.eidi || !s.iff1 then none else scanSources s s.platform.intSources with
      | some id => (true, acceptInt id { s with eidi := false })
      | none => (false, .next { s with eidi := false }) := by
  have hscan : scanSources { s with eidi := false } s.platform.intSources = scanSources s s.platform.intSources :=
    scanSources_congr (u := { s with eidi := false }) (s := s) rfl rfl _
  rw [interruptPhase, if_neg (Bool.eq_false_iff.1 hp)]
  dsimp only
  rw [if_neg (Bool.eq_false_iff.1 hn), hscan]
  cases s.eidi <;> cases s.iff1 <;> rfl

theorem interruptPhase_of_services (h : Services s id) :
    interruptPhase s = (true, acceptInt id { s with eidi := false }) := by
  obtain ⟨hn, hp, he, hi, hscan⟩ := services_iff.1 h
  simp only [interruptPhase_of_scan hp hn, he, hi, hscan]
  rfl

theorem interruptPhase_of_quiet (hp : s.afterPrefix = false) (hn : s.nmiPending = false)
    (h : ∀ id, ¬Services s id) : interruptPhase s = (false, .next { s with eidi := false }) := by
  rw [interruptPhase_of_scan hp hn]
  split
  next id hscan =>
    split at hscan
    · cases hscan
    next hopen =>
      simp only [Bool.or_eq_true, Bool.not_eq_true', not_or, Bool.not_eq_true, Bool.not_eq_false] at hopen
      exact absurd (services_iff.2 ⟨hn, hp, hopen.1, hopen.2, hscan⟩) (h id)
  · rfl

/-- Everything that the interrupt phase can do (R404). -/
inductive Phase (s : State) : Bool × Result → Prop where
  | afterPrefix (h : s.afterPrefix = true) : Phase s (false, .next s)
  | nmi (hp : s.afterPrefix = false) (hn : s.nmiPending = true) :
      Phase s (true, .next (acceptNmi { s with eidi := false }))
  | source (id : SourceId) (h : Services s id) : Phase s (true, acceptInt id { s with eidi := false })
  | quiet (hp : s.afterPrefix = false) (hn : s.nmiPending = false) (h : ∀ id, ¬Services s id) :
      Phase s (false, .next { s with eidi := false })

theorem interruptPhase_cases (s : State) : Phase s (interruptPhase s) := by
  cases hp : s.afterPrefix with
  | true => exact interruptPhase_of_afterPrefix hp ▸ .afterPrefix hp
  | false =>
    cases hn : s.nmiPending with
    | true => exact interruptPhase_of_nmi hp hn ▸ .nmi hp hn
    | false =>
      by_cases h : ∃ id, Services s id
      · obtain ⟨id, h⟩ := h
        exact interruptPhase_of_services h ▸ .source id h
      · rw [not_exists] at h
        exact interruptPhase_of_quiet hp hn h ▸ .quiet hp hn h

theorem Phase.accepts_iff {r : Bool × Result} (h : Phase s r) :
    r.1 = true ↔ (s.afterPrefix = false ∧ s.nmiPending = true) ∨ ∃ id, Services s id := by
  cases h with
  | afterPrefix h => simp [Services, h]
  | nmi hp hn => simp [hp, hn]
  | source id h => exact iff_of_true rfl (.inr ⟨id, h⟩)
  | quiet hp hn h => simp [hn, h]

theorem Phase.eq_of_not_accepts {r : Bool × Result} (h : Phase s r) (hr : r.1 = false) :
    r = (false, .next (if s.afterPrefix then s else { s with eidi := false })) := by
  cases h with
  | afterPrefix h => rw [if_pos h]
  | nmi | source => cases hr
  | quiet hp => rw [if_neg (Bool.eq_false_iff.1 hp)]

end

/-- Settles O11: the case of the phase decides what it accepts. -/
theorem acceptanceCondition : Obligations.AcceptanceCondition := fun s =>
  ⟨(interruptPhase_cases s).accepts_iff, fun _ h => interruptPhase_of_services h,
    (interruptPhase_cases s).eq_of_not_accepts⟩

/-! ## Taking an interrupt -/

section

variable {s : State} {id : SourceId}

/-- A handler's address may be read from memory, but PC is all that an acceptance stores. -/
theorem enterHandler_mem (target : State → Word × State) (cost : Nat) (s : State) :
    (enterHandler target cost s).mem = (target (push16 s.pc s)).2.mem := rfl

theorem acceptNmi_mem (s : State) :
    (acceptNmi s).mem = (push16 s.pc (acknowledge { s with nmiPending := false })).mem := by
  rw [acceptNmi, enterHandler_mem]
  dsimp only [acknowledge, incR]

theorem acceptIm1_mem (s : State) : (acceptIm1 s).mem = (push16 s.pc s).mem := by
  rw [acceptIm1, enterHandler_mem]

theorem acceptIm2_mem (v : Byte) (s : State) : (acceptIm2 v s).mem = (push16 s.pc s).mem := by
  rw [acceptIm2, enterHandler_mem, readWord_eq_wordAt]

/-- What NMI acceptance changes (R405, R411). -/
theorem acceptNmi_state (s : State) :
    acceptNmi s =
      { s with
        nmiPending := false, halted := false, rlo7 := s.rlo7 + 1
        regs := { s.regs with sp := s.regs.sp - 2 }
        iff2 := s.iff1, iff1 := false, pc := 0x0066, t := s.t + s.platform.accept.nmi
        mem := (acceptNmi s).mem, trace := (acceptNmi s).trace } := by
  rw [acceptNmi, enterHandler, push16_state]
  rfl

/-- An acceptance that pushes PC stores it below SP (R79). -/
theorem storesWord_of_push16 {t u : State} (hu : u.mem = (push16 s.pc t).mem) (hm : s.mem.wf = true)
    (htm : t.mem = s.mem) (htp : t.platform = s.platform) (htr : t.regs = s.regs) :
    StoresWord s u (s.regs.sp - 2) s.pc := by
  intro b
  have hstored := stored_push16 (s := t) (htm ▸ hm) s.pc b
  rw [htp, htr] at hstored
  calc stored u b = stored (push16 s.pc t) b := congrArg (Memory.read · b.toNat) hu
    _ = _ := hstored
    _ = _ := by rw [stored, htm, ← stored]

/-- Settles O12: the case of the latched NMI, whose only stores are those of `push16`. -/
theorem nmiAcceptance : Obligations.NmiAcceptance := fun s hm hp hn =>
  ⟨_, interruptPhase_of_nmi hp hn,
    storesWord_of_push16 (acceptNmi_mem { s with eidi := false }) hm rfl rfl rfl,
    acceptNmi_state { s with eidi := false }⟩

/-- The state after the steps of an acceptance before the dispatch on the mode: only the chips that R401 marks, the
flip-flops, halted and R change (R407, R411). -/
def acceptedState (id : SourceId) (s : State) : State :=
  { s with
    halted := false, rlo7 := s.rlo7 + 1, iff1 := false, iff2 := false
    ctcs := (sourceAccept id s).2.ctcs, pios := (sourceAccept id s).2.pios }

/-- The source's answer does not depend on the fields that an acceptance writes before it asks the source. -/
theorem acceptSource_eq (id : SourceId) (s : State) :
    acceptSource id s = ((sourceAccept id s).1, acceptedState id s) := by
  unfold acceptSource sourceAccept acknowledge acceptedState sourceAccept
  cases id with
  | ctc k =>
    dsimp only [incR]
    cases s.ctcs[k]? <;> rfl
  | pio k =>
    dsimp only [incR]
    cases s.pios[k]? <;> rfl

/-- The dispatch of R407. -/
theorem acceptInt_eq (id : SourceId) (s : State) :
    acceptInt id s =
      match s.im with
      | .im0 => acceptIm0 (sourceAccept id s).1 (acceptedState id s)
      | .im1 => .next (acceptIm1 (acceptedState id s))
      | .im2 => .next (acceptIm2 (sourceAccept id s).1 (acceptedState id s)) := by
  rw [acceptInt, acceptSource_eq]
  rfl

theorem wordAt_congr {u : State} (hp : u.platform = s.platform) (hm : u.mem = s.mem) (hd : u.draws = s.draws)
    (a : Word) : wordAt u a = wordAt s a := by
  simp only [wordAt, peek, drawsOf_congr hp, heldByte_congr hp hm, hd]

/-- What acceptance in mode 1 changes (R409). -/
theorem acceptIm1_state (s : State) :
    acceptIm1 s =
      { s with
        regs := { s.regs with sp := s.regs.sp - 2 }, pc := 0x0038, t := s.t + s.platform.accept.im1
        mem := (acceptIm1 s).mem, trace := (acceptIm1 s).trace } :=
  congrArg (fun u : State => charge s.platform.accept.im1 (setPc 0x0038 u)) (push16_state s.pc s)

theorem push16_i (v : Word) (s : State) : (push16 v s).i = s.i := (congrArg State.i (push16_state v s) :)

theorem push16_draws (v : Word) (s : State) : (push16 v s).draws = s.draws :=
  (congrArg State.draws (push16_state v s) :)

/-- What acceptance in mode 2 changes: the vector table is read after the push (R410). -/
theorem acceptIm2_state (v : Byte) (s : State) :
    acceptIm2 v s =
      { s with
        regs := { s.regs with sp := s.regs.sp - 2 }
        pc := wordAt { s with mem := (acceptIm2 v s).mem } (mkWord s.i v)
        t := s.t + s.platform.accept.im2
        mem := (acceptIm2 v s).mem, trace := (acceptIm2 v s).trace, draws := (acceptIm2 v s).draws } := by
  have hp := push16_platform s s.pc
  have hi := push16_i s.pc s
  have hd := push16_draws s.pc s
  have hw : wordAt (push16 s.pc s) (mkWord s.i v) = wordAt { s with mem := (push16 s.pc s).mem } (mkWord s.i v) :=
    wordAt_congr (s := { s with mem := (push16 s.pc s).mem }) hp rfl hd _
  rw [acceptIm2, enterHandler, readWord_eq_wordAt, hi, hw]
  dsimp only [setPc, charge]
  rw [push16_state]

theorem interruptPhase_eq_acceptInt (h : Services s id) : interruptPhase s = (true, acceptInt id s) := by
  obtain ⟨-, -, he, -⟩ := services_iff.1 h
  rw [interruptPhase_of_services h, ← he]

/-- Settles O13: `push16` and the handler's address, in the state that `acceptSource` leaves. -/
theorem maskableAcceptance : Obligations.MaskableAcceptance := by
  intro s id hm him v src
  have hphase {u : State} (hu : acceptInt id s = .next u) (hs : Services s id) :
      interruptPhase s = (true, .next u) := hu ▸ interruptPhase_eq_acceptInt hs
  have stores {u : State} (hu : u.mem = (push16 s.pc (acceptedState id s)).mem) :
      StoresWord s u (s.regs.sp - 2) s.pc := storesWord_of_push16 hu hm rfl rfl rfl
  have haccept := acceptInt_eq id s
  obtain h | h : s.im = .im1 ∨ s.im = .im2 := by
    revert him
    cases s.im <;> simp
  · rw [h] at haccept
    refine ⟨_, haccept, hphase haccept, stores (acceptIm1_mem _), ?_⟩
    have hu := acceptIm1_state (acceptedState id s)
    clear haccept
    generalize acceptIm1 (acceptedState id s) = u at hu ⊢
    have hpc : u.pc = 0x0038 := (congrArg State.pc hu :)
    have ht : u.t = s.t + s.platform.accept.im1 := (congrArg State.t hu :)
    have hd : u.draws = s.draws := (congrArg State.draws hu :)
    refine ⟨fun _ => ⟨hpc, ht, hd⟩, fun h2 => absurd (h.symm.trans h2) (by decide), ?_⟩
    rw [hpc, ht, hd]
    exact hu
  · rw [h] at haccept
    refine ⟨_, haccept, hphase haccept, stores (acceptIm2_mem v _), fun h1 => absurd (h.symm.trans h1) (by decide), ?_⟩
    have hu := acceptIm2_state v (acceptedState id s)
    clear haccept
    generalize acceptIm2 v (acceptedState id s) = u at hu ⊢
    have hpc : u.pc = wordAt { acceptedState id s with mem := u.mem } (mkWord s.i v) := (congrArg State.pc hu :)
    have hw : u.pc = wordAt { s with mem := u.mem } (mkWord s.i v) :=
      hpc.trans (wordAt_congr (s := { s with mem := u.mem }) rfl rfl rfl _)
    have ht : u.t = s.t + s.platform.accept.im2 := (congrArg State.t hu :)
    refine ⟨fun _ => ⟨hw, ht⟩, ?_⟩
    rw [hpc, ht]
    exact hu

end

/-! ## Mode 0 -/

section

variable {v : Byte} {s : State} {i : Instr} {rest : List Byte}

theorem acceptIm0_of_decode_ok (h : decode [v] = .ok i rest) :
    acceptIm0 v s =
      if i.isPrefixRow || i == .halt then .refused .im0NotOneByte
      else execBaseRow i (charge s.platform.accept.im0 s) := by
  unfold acceptIm0 im0Instr
  rw [h]
  dsimp only
  cases i.isPrefixRow || i == .halt <;> rfl

theorem acceptIm0_of_decode_error {e : DecodeError} (h : decode [v] = .error e) :
    acceptIm0 v s = .refused .im0NotOneByte := by
  unfold acceptIm0 im0Instr
  rw [h]

/-- A row that one byte is, other than a prefix, is a base-page row with that opcode (R408, 30_encoding.md R118). -/
theorem codeBase_m1_of_decode (h : decode [v] = .ok i rest) (hp : i.isPrefixRow = false) : i.codeBase.m1 = [v] := by
  obtain rfl | rfl | rfl | rfl | hv := byte_cases v
  iterate 4
    cases h
    cases hp
  rw [decode_of_not_prefixByte hv] at h
  obtain ⟨_, -, hrow⟩ := (decodeBase_reads v []).ok_spec h
  exact hrow.m1

/-- A vector that is an instruction of IM0_SINGLE runs (R408). -/
theorem acceptIm0_of_single (h : decode [v] = .ok i rest) (hp : i.isPrefixRow = false) (hh : i ≠ .halt) :
    acceptIm0 v s = exec i (charge s.platform.accept.im0 s) := by
  rw [acceptIm0_of_decode_ok h, exec_eq_execBaseRow (codeBase_m1_of_decode h hp) hp]
  simp [hp, hh]

theorem acceptIm0_of_not_single (h : decode [v] = .ok i rest) (hi : i.isPrefixRow = true ∨ i = .halt) :
    acceptIm0 v s = .refused .im0NotOneByte := by
  rw [acceptIm0_of_decode_ok h]
  obtain hp | rfl := hi
  · simp [hp]
  · rfl

end

/-- Settles O14: the dispatch of `acceptInt_eq`, and the vector's decoding. -/
theorem modeZeroAcceptance : Obligations.ModeZeroAcceptance := by
  refine ⟨?dispatch, fun v s => ⟨fun i h hp hh => acceptIm0_of_single h hp hh, ?refused⟩⟩
  case dispatch =>
    intro s id him src run
    have haccept : acceptInt id s = run := by
      rw [acceptInt_eq, him]
      rfl
    exact ⟨haccept, fun hs => haccept ▸ interruptPhase_eq_acceptInt hs⟩
  case refused =>
    rintro (⟨e, h⟩ | h | ⟨i, h, hp⟩)
    · exact acceptIm0_of_decode_error h
    · exact acceptIm0_of_not_single h (.inr rfl)
    · exact acceptIm0_of_not_single h (.inl hp)

end Sys2Proof.Machine

/-! SUPPORT. How an iteration ends: with no chain wired the clock always stops, an instruction always completes, and the
only stops are a refused vector of mode 0 and a chain that does not end (spec/60_exceptions.md R400, R404, R408). -/

namespace Sys2Proof.Machine

open Sys2Proof.Claim

/-! ## One instruction -/

section

variable {s : State}

/-- The bytes at PC are an instruction (30_encoding.md R110), and it completes (R400). -/
theorem executeInstruction_completes (s : State) : ∃ u, executeInstruction s = .next u := by
  have hf := decode_faithful (window s s.pc 4)
  obtain ⟨i, rest, hd, hp⟩ := hf.total (Nat.le_refl 4)
  obtain ⟨u, hu⟩ := execRow_completes (hf.sound i rest hd).1 hp (fetchCode 0 i.code s)
  refine ⟨u, ?_⟩
  rw [executeInstruction, hd, ← hu]
  exact exec_eq_execRow hp _

theorem executePhase_completes (accepted : Bool) (s : State) : ∃ u, executePhase accepted s = .next u := by
  unfold executePhase
  dsimp only
  split
  · exact ⟨_, rfl⟩
  · exact executeInstruction_completes _

/-! ## Taking an interrupt -/

/-- Mode 0 acceptance completes or is refused (R408). -/
theorem acceptIm0_completes_or_refuses (v : Byte) (s : State) :
    (∃ u, acceptIm0 v s = .next u) ∨ acceptIm0 v s = .refused .im0NotOneByte := by
  cases hd : decode [v] with
  | error e => exact .inr (acceptIm0_of_decode_error hd)
  | ok i rest =>
    by_cases hi : i.isPrefixRow = true ∨ i = .halt
    · exact .inr (acceptIm0_of_not_single hd hi)
    · simp only [not_or, Bool.not_eq_true] at hi
      obtain ⟨hp, hh⟩ := hi
      have hm := codeBase_m1_of_decode hd hp
      rw [acceptIm0_of_single hd hp hh, exec_eq_execBaseRow hm hp]
      exact .inl (execBaseRow_completes hm hp _)

/-- The interrupt phase completes but where a vector of mode 0 is refused (R404, R408). -/
theorem interruptPhase_completes_or_refuses (s : State) :
    (∃ u, (interruptPhase s).2 = .next u) ∨
      s.im = .im0 ∧ (interruptPhase s).2 = .refused .im0NotOneByte := by
  have h := interruptPhase_cases s
  generalize interruptPhase s = r at h ⊢
  cases h with
  | afterPrefix | nmi | quiet => exact .inl ⟨_, rfl⟩
  | source id =>
    change (∃ u, acceptInt id _ = .next u) ∨ s.im = .im0 ∧ acceptInt id _ = _
    rw [acceptInt_eq]
    dsimp only
    cases s.im with
    | im0 =>
      exact (acceptIm0_completes_or_refuses _ _).imp_right fun h => ⟨rfl, h⟩
    | im1 | im2 => exact .inl ⟨_, rfl⟩

/-! ## The clock -/

theorem chainOf_of_unwired (h : s.platform.ctcChain = []) (k : Nat) : chainOf s k = .unwired := by
  rw [chainOf, h]
  rfl

/-- With no chain wired the clock of the chips always stops (R413). -/
theorem tickChips_completes (t : Nat) (ks : List Nat) (h : s.platform.ctcChain = []) :
    ∃ u, tickChips t ks s = some u := by
  induction ks generalizing s with
  | nil => exact ⟨s, rfl⟩
  | cons k ks ih =>
    obtain ⟨v, hv⟩ : ∃ v, ctcOp k (fun w x => Ctc.tick w t x) s = some v := by
      unfold ctcOp
      rw [chainOf_of_unwired h]
      cases s.ctcs[k]? with
      | none => exact ⟨s, rfl⟩
      | some c =>
        obtain ⟨r, hr⟩ := Ctc.tick_unwired t { chip := c, zeroCounts := [] }
        exact ⟨_, congrArg (Option.map _) hr⟩
    obtain ⟨u, hu⟩ := ih (s := v) ((congrArg Platform.ctcChain (ctcOp_platform hv)).trans h)
    exact ⟨u, by rw [tickChips, hv, Option.bind_some, hu]⟩

/-- The end of an iteration completes, or a chain did not end (R463, log 10). -/
theorem closeIteration_completes_or_faults (s : State) :
    (∃ u, closeIteration s = .next u) ∨ closeIteration s = .fault .ctcChainLoop := by
  unfold closeIteration
  dsimp only
  split
  · exact .inl ⟨_, rfl⟩
  · exact .inr rfl

theorem closeIteration_completes (h : s.platform.ctcChain = []) : ∃ u, closeIteration s = .next u := by
  obtain ⟨u, hu⟩ := tickChips_completes (s := { s with
    t := s.t + s.waitAcc, waitAcc := 0
    tTotal := (s.tTotal + (s.t + s.waitAcc)) % s.platform.tstatesWrap }) (s.t + s.waitAcc)
    (List.range s.ctcs.length) h
  refine ⟨u, ?_⟩
  rw [closeIteration]
  dsimp only
  rw [hu]

/-! ## The iteration -/

/-- After an interrupt phase that completes, an iteration is one instruction or no-op and its close. -/
theorem iteration_of_phase {acc : Bool} {u v : State} (hi : interruptPhase { s with t := 0 } = (acc, .next u))
    (he : executePhase acc u = .next v) : iteration s = closeIteration v := by
  rw [iteration, hi]
  dsimp only [andThen]
  rw [he]

/-- Every way an iteration can end (R400). -/
theorem iteration_outcomes (s : State) :
    (s.im = .im0 ∧ iteration s = .refused .im0NotOneByte) ∨
      ∃ v, v.platform = s.platform ∧ iteration s = closeIteration v := by
  obtain ⟨u, hu⟩ | ⟨him, hr⟩ := interruptPhase_completes_or_refuses { s with t := 0 }
  · obtain ⟨v, hv⟩ := executePhase_completes (interruptPhase { s with t := 0 }).1 u
    exact .inr ⟨v, (executePhase_platform hv).trans (interruptPhase_platform hu :),
      iteration_of_phase (Prod.ext rfl hu) hv⟩
  · refine .inl ⟨him, ?_⟩
    rw [iteration, hr]
    rfl

end

/-- The step after the host's interactions (R404, R418). -/
theorem step_of_hostPhase_some {s u : State} (h : hostPhase s = some u) : step s = iteration u := by
  rw [step, hostThenIteration, h]

theorem step_of_hostPhase_none {s : State} (h : hostPhase s = none) : step s = .fault .ctcChainLoop := by
  rw [step, hostThenIteration, h]

/-- Settles O18: no way in which a step ends is that fault. -/
theorem neverInconsistent : Obligations.NeverInconsistent := by
  intro s h
  cases hh : hostPhase s with
  | none => cases (step_of_hostPhase_none hh).symm.trans h
  | some u =>
    replace h := (step_of_hostPhase_some hh).symm.trans h
    obtain ⟨-, hr⟩ | ⟨v, -, hv⟩ := iteration_outcomes u
    · cases hr.symm.trans h
    · obtain ⟨w, hw⟩ | hw := closeIteration_completes_or_faults v <;> cases (hv.trans hw).symm.trans h

/-- Settles O19: outside mode 0 an iteration is the close of some state on the same platform. -/
theorem stepCompletes : Obligations.StepCompletes := by
  intro s hchain him
  obtain ⟨him0, -⟩ | ⟨v, hp, hv⟩ := iteration_outcomes s
  · exact absurd him0 him
  · obtain ⟨u, hu⟩ := closeIteration_completes (s := v) (hp ▸ hchain)
    exact ⟨u, hv.trans hu, fun hq => (step_quiet hq).trans (hv.trans hu)⟩

end Sys2Proof.Machine

/-! SUPPORT. Only the host's stop writes the stop flag: no step clears it (spec/60_exceptions.md R418, R422). -/

namespace Sys2Proof.Machine

open Sys2Proof.Claim

section

variable (s : State)

/-! ## The shared operations -/

@[simp] theorem readWord_stop (k : WordAccess) (a : Word) : (readWord k a s).2.stop = s.stop := rfl

@[simp] theorem writeWord_stop (k : WordAccess) (a v : Word) : (writeWord k a v s).stop = s.stop :=
  (congrArg State.stop (writeWord_state k a v s) :)

@[simp] theorem push16_stop (v : Word) : (push16 v s).stop = s.stop := (congrArg State.stop (push16_state v s) :)

@[simp] theorem pop16_stop : (pop16 s).2.stop = s.stop := rfl

@[simp] theorem fetchCode_stop (done : Nat) (c : Code) : (fetchCode done c s).stop = s.stop := by
  obtain ⟨_, _, hm⟩ := fetchM1s_spec (c.m1.length - done) s
  obtain ⟨_, _, ho⟩ := fetchOperands_spec c.operand.length (fetchM1s (c.m1.length - done) s)
  rw [fetchCode]
  split
  · simp [hm]
  · rw [ho, hm]

@[simp] theorem ioRead_stop (p : Word) : (ioRead p s).2.stop = s.stop := (congrArg State.stop (ioRead_state p s) :)

@[simp] theorem ioWrite_stop (p : Word) (v : Byte) : (ioWrite p v s).stop = s.stop :=
  (congrArg State.stop (ioWrite_state p v s) :)

@[simp] theorem finishService_stop : (finishService s).stop = s.stop :=
  (congrArg State.stop (finishService_state s) :)

@[simp] theorem returnFromCall_stop : (returnFromCall s).stop = s.stop := rfl

@[simp] theorem returnFromInterrupt_stop : (returnFromInterrupt s).stop = s.stop := rfl

@[simp] theorem setStackPair_stop (q : StackPair) (v : Word) : (s.setStackPair q v).stop = s.stop := by
  cases q <;> rfl

@[simp] theorem changeMem_stop (f : Byte → Byte) (a : Word) : (changeMem f a s).2.stop = s.stop :=
  memWrite_stop ..

@[simp] theorem exchangeTop_stop (v : Word) : (exchangeTop v s).2.stop = s.stop :=
  (congrArg (fun r => r.2.stop) (exchangeTop_eq_wordAt v s) :)

@[simp] theorem rotateMem_stop (op : RotOp) (a : Word) : (rotateMem op a s).2.stop = s.stop :=
  (congrArg State.stop (rotateMem_state op a s) :)

end

section

variable {s t : State}

theorem execBaseRow_stop {i : Instr} (h : execBaseRow i s = .next t) : t.stop = s.stop := by
  cases i <;> cases h <;>
    simp -implicitDefEqProofs [onReg, onImm, onAtHl, onMem, apply_ite State.stop, toHl, addA, adcA, subA, sbcA, andA, xorA,
      orA, cpA, toA, stepReg, stepMem, jumpRelative, callTo, loadPair, loadFrom, loadAFrom, rotateA]

theorem execRow_stop {i : Instr} (h : execRow i s = .next t) : t.stop = s.stop := by
  cases i with
  | ddIgnored base | fdIgnored base => exact execBaseRow_stop (s := charge _ s) h
  | neg x =>
    injection h with h
    rw [← h]
    simp
  | _ =>
    cases h <;>
      simp -implicitDefEqProofs [onReg, onImm, onHalf, onAtHl, onIndexed, onMem, apply_ite State.stop, toHl, addA, adcA,
        subA, sbcA, andA, xorA, orA, cpA, toA, stepReg, stepHalf, stepMem, jumpRelative, callTo, loadPair, loadFrom,
        loadAFrom, rotateA, addIndex, testMem, changeReg, changeAtHl, changeIndexed, changeIndexedCopy, repeatIf,
        ldBlock, cpBlock, exchangeIndex, inBlock, outBlock, loadIndex, popIndex, loadX8, loadHalf, loadSpecial,
        setRefresh, rotateReg, rotateAtHl, rotateIndexed, rotateIndexedCopy, digitResult, chainStep]

theorem continueDecode_stop {pfx : List Byte} (h : continueDecode pfx s = .next t) : t.stop = s.stop := by
  unfold continueDecode at h
  split at h
  · exact (execRow_stop h).trans (fetchCode_stop ..)
  · cases h

theorem exec_stop {i : Instr} (h : exec i s = .next t) : t.stop = s.stop := by
  obtain e | ⟨_, e⟩ := exec_eq_execRow_or_continueDecode i s
  · exact execRow_stop (e ▸ h)
  · exact continueDecode_stop (e ▸ h)

/-! ## The iteration -/

theorem executeInstruction_stop (h : executeInstruction s = .next t) : t.stop = s.stop := by
  unfold executeInstruction at h
  split at h
  · exact (exec_stop h).trans (fetchCode_stop ..)
  · cases h

theorem executePhase_stop {accepted : Bool} (h : executePhase accepted s = .next t) : t.stop = s.stop := by
  unfold executePhase at h
  split at h
  · cases h; rfl
  · exact (executeInstruction_stop h :)

theorem acceptIm0_stop {v : Byte} (h : acceptIm0 v s = .next t) : t.stop = s.stop := by
  unfold acceptIm0 at h
  split at h
  · exact (execBaseRow_stop h :)
  · cases h

theorem acceptInt_stop {id : SourceId} (h : acceptInt id s = .next t) : t.stop = s.stop := by
  rw [acceptInt_eq] at h
  split at h
  · exact (acceptIm0_stop h :)
  · cases h
    exact (congrArg State.stop (acceptIm1_state (acceptedState id s)) :)
  · cases h
    exact (congrArg State.stop (acceptIm2_state _ (acceptedState id s)) :)

theorem interruptPhase_stop (h : (interruptPhase s).2 = .next t) : t.stop = s.stop := by
  have hp := interruptPhase_cases s
  generalize interruptPhase s = r at h hp
  cases hp with
  | afterPrefix | quiet => cases h; rfl
  | nmi =>
    cases h
    exact (congrArg State.stop (acceptNmi_state { s with eidi := false }) :)
  | source => exact (acceptInt_stop h :)

theorem closeIteration_stop (h : closeIteration s = .next t) : t.stop = s.stop := by
  unfold closeIteration at h
  dsimp only at h
  split at h
  next hu =>
    cases h
    exact (congrArg State.stop (tickChips_state hu).1 :)
  · cases h

theorem iteration_stop (h : iteration s = .next t) : t.stop = s.stop := by
  obtain ⟨u, hu, h⟩ := andThen_next.1 h
  obtain ⟨v, hv, h⟩ := andThen_next.1 h
  calc t.stop = v.stop := closeIteration_stop h
    _ = u.stop := executePhase_stop hv
    _ = s.stop := (interruptPhase_stop hu :)

/-! ## The host's interactions -/

theorem ctcOp_stop {k : Nat} {op : Chain → CtcRun → Option CtcRun} (h : ctcOp k op s = some t) : t.stop = s.stop :=
  (congrArg State.stop (ctcOp_state h).1 :)

theorem hostEvent_ctcLevel (k : Nat) (n : Chan) (l : Bool) (s : State) :
    hostEvent (.ctcLevel k n l) s = ctcOp k (fun w x => Ctc.setLevel w n l x) s := rfl

theorem hostEvent_ctcPulse (k : Nat) (n : Chan) (s : State) :
    hostEvent (.ctcPulse k n) s = ctcOp k (fun w x => Ctc.pulse w n x) s := rfl

/-- Nothing that the host does takes a stop back (R422). -/
theorem hostEvent_stop {e : HostEvent} (h : hostEvent e s = some t) (hs : s.stop = true ∨ e = .stop) :
    t.stop = true := by
  cases e with
  | stop => cases h; rfl
  | ctcLevel k n l =>
    rw [hostEvent_ctcLevel] at h
    exact (ctcOp_stop h).trans (by simpa using hs)
  | ctcPulse k n =>
    rw [hostEvent_ctcPulse] at h
    exact (ctcOp_stop h).trans (by simpa using hs)
  | pioPutIn k x v =>
    cases h
    unfold hostPutIn
    split <;> simpa using hs
  | pioFetchOut k x =>
    cases h
    unfold hostFetchOut
    split <;> simpa using hs
  | writeReg8 reg v => cases h; cases reg <;> simpa [hostWrite8] using hs
  | writeReg16 reg v => cases h; cases reg <;> simpa [hostWrite16] using hs
  | writeFlag flag v => cases h; cases flag <;> simpa [hostWriteFlag] using hs
  | fireNmi | addWait | writeIm | writeMem | reset => cases h; simpa [resetMachine] using hs

theorem hostDoes_stop {es : List HostEvent} (h : HostDoes es s t) (hs : s.stop = true ∨ .stop ∈ es) :
    t.stop = true := by
  induction h with
  | nothing => simpa using hs
  | event e es s u t he _ ih =>
    apply ih
    by_cases hes : .stop ∈ es
    · exact .inr hes
    · refine .inl (hostEvent_stop he (hs.imp_right fun hmem => ?_))
      exact ((List.mem_cons.1 hmem).resolve_right hes).symm

end

end Sys2Proof.Machine

/-! SUPPORT. The iteration and the host's interactions: the instruction that an iteration runs, the halted no-op, the
end of an iteration, and what each event of the host's script changes (spec/60_exceptions.md R404, R412 to R414,
R418). -/

namespace Sys2Proof.Machine

open Sys2Proof.Claim

/-! ## The phases after the interrupt phase -/

section

variable {s u : State}

theorem executePhase_of_running {acc : Bool} (h : acc = true ∨ s.halted = false ∨ s.afterPrefix = true) :
    executePhase acc s = executeInstruction { s with afterPrefix := false } := by
  rw [executePhase, if_neg]
  obtain rfl | h | h := h <;> simp [*]

theorem executePhase_of_halted (hh : s.halted = true) (hp : s.afterPrefix = false) :
    executePhase false s =
      .next { s with
        rlo7 := s.rlo7 + 1, t := s.t + s.platform.tstates.halted, afterPrefix := false } := by
  rw [executePhase, if_pos (by simp [hh, hp])]
  rfl

/-- Settles O10: the execute phase after the interrupt phase is one fetch and one meaning. -/
theorem stepRunsInstruction : Obligations.StepRunsInstruction := by
  intro s s1 acc i rest hphase hrun hdecode run
  have hexecute : executePhase acc s1 = exec i (fetchCode 0 i.code { s1 with afterPrefix := false }) := by
    have hd : decode (window { s1 with afterPrefix := false } s1.pc 4) = .ok i rest := hdecode
    rw [executePhase_of_running hrun, executeInstruction, hd]
  have hiter : iteration s = run := by
    rw [iteration, hphase]
    exact congrArg (andThen · closeIteration) hexecute
  exact ⟨hiter, fun hq => (step_quiet hq).trans hiter⟩

/-- The end of an iteration changes T, the wait states, the cumulative counter, the chips and the trace (R413, R414). -/
theorem closeIteration_spec (h : closeIteration s = .next u) :
    u = { s with
        t := s.t + s.waitAcc, waitAcc := 0
        tTotal := (s.tTotal + (s.t + s.waitAcc)) % s.platform.tstatesWrap
        ctcs := u.ctcs, trace := u.trace } ∧
      tickChips (s.t + s.waitAcc) (List.range s.ctcs.length)
        { s with
          t := s.t + s.waitAcc, waitAcc := 0
          tTotal := (s.tTotal + (s.t + s.waitAcc)) % s.platform.tstatesWrap } = some u := by
  unfold closeIteration at h
  dsimp only at h
  split at h
  next hu =>
    cases h
    exact ⟨(tickChips_state hu).1, hu⟩
  · cases h

theorem interruptPhase_fst_clearT (s : State) : (interruptPhase { s with t := 0 }).1 = (interruptPhase s).1 := by
  rw [Bool.eq_iff_iff, (interruptPhase_cases s).accepts_iff, (interruptPhase_cases _).accepts_iff]
  exact Iff.rfl

end

/-- Settles O16: an interrupt phase that accepts nothing, the no-op of R412 and the close. -/
theorem haltedNoOp : Obligations.HaltedNoOp := by
  intro s hh hp hacc hchain
  have hphase : interruptPhase { s with t := 0 } = (false, .next { s with t := 0, eidi := false }) := by
    have h := (interruptPhase_cases { s with t := 0 }).eq_of_not_accepts ((interruptPhase_fst_clearT s).trans hacc)
    rwa [if_neg (Bool.eq_false_iff.1 hp)] at h
  have hiter := iteration_of_phase hphase (executePhase_of_halted (s := { s with t := 0, eidi := false }) hh hp)
  obtain ⟨u, hu⟩ := closeIteration_completes (s := { s with
    t := 0 + s.platform.tstates.halted, eidi := false, rlo7 := s.rlo7 + 1, afterPrefix := false }) hchain
  refine ⟨u, hiter.trans hu, fun hq => (step_quiet hq).trans (hiter.trans hu), ?_⟩
  have hstate := (closeIteration_spec hu).1
  rw [Nat.zero_add] at hstate
  rw [hp]
  exact hstate

/-! ## The clock of the chips -/

section

variable {s u : State} {k : Nat} {c : Ctc}

theorem ctcOp_of_some {op : Chain → CtcRun → Option CtcRun} {r : CtcRun} (hk : s.ctcs[k]? = some c)
    (h : op (chainOf s k) { chip := c, zeroCounts := [] } = some r) :
    ctcOp k op s =
      some { s with
        ctcs := s.ctcs.set k r.chip, trace := r.zeroCounts.map (Event.zeroCount k) ++ s.trace } := by
  rw [ctcOp, hk]
  dsimp only
  rw [h]
  rfl

theorem ctcOp_eq_some {op : Chain → CtcRun → Option CtcRun} (hk : s.ctcs[k]? = some c)
    (h : ctcOp k op s = some u) :
    ∃ r, op (chainOf s k) { chip := c, zeroCounts := [] } = some r ∧
      u = { s with
        ctcs := s.ctcs.set k r.chip, trace := r.zeroCounts.map (Event.zeroCount k) ++ s.trace } := by
  rw [ctcOp, hk] at h
  obtain ⟨r, hr, hu⟩ := Option.map_eq_some_iff.1 h
  exact ⟨r, hr, hu.symm⟩

/-- The zero counts of runs of consecutive chips, from chip `i` on, as events, the newest first (61_ctc.md R465). -/
def runEvents (i : Nat) (runs : List CtcRun) : List Event :=
  (runs.zipIdx i).reverse.flatMap fun r => r.1.zeroCounts.map (Event.zeroCount r.2)

theorem runEvents_cons (i : Nat) (r : CtcRun) (runs : List CtcRun) :
    runEvents i (r :: runs) = runEvents (i + 1) runs ++ r.zeroCounts.map (Event.zeroCount i) := by
  simp [runEvents, List.zipIdx_cons]

/-- The clock of the chips from chip `i` to the last runs each under its own chain and leaves the chips before them
(R413). -/
theorem tickChips_range' {t i m : Nat} (h : tickChips t (List.range' i m) s = some u)
    (hm : i + m = s.ctcs.length) :
    ∃ runs : List CtcRun, runs.length = m ∧
      (∀ k c, s.ctcs[i + k]? = some c → ∃ r, runs[k]? = some r ∧
        Ctc.tick (chainOf s (i + k)) t { chip := c, zeroCounts := [] } = some r) ∧
      u.ctcs = s.ctcs.take i ++ runs.map (·.chip) ∧ u.trace = runEvents i runs ++ s.trace := by
  induction m generalizing i s with
  | zero =>
    cases h
    refine ⟨[], rfl, fun k c hk => ?_, ?_, rfl⟩
    · have := (List.getElem?_eq_some_iff.1 hk).1
      omega
    · simp [← hm]
  | succ m ih =>
    rw [List.range'_succ, tickChips] at h
    obtain ⟨v, hv, h⟩ := Option.bind_eq_some_iff.1 h
    have hi : i < s.ctcs.length := by omega
    obtain ⟨r, hr, rfl⟩ := ctcOp_eq_some (List.getElem?_eq_getElem hi) hv
    obtain ⟨runs, hlen, hruns, hctcs, htrace⟩ := ih h (by simp; omega)
    refine ⟨r :: runs, by rw [List.length_cons, hlen], fun k c hk => ?_, ?_, ?_⟩
    · cases k with
      | zero =>
        rw [Nat.add_zero, List.getElem?_eq_getElem hi] at hk
        cases hk
        exact ⟨r, rfl, hr⟩
      | succ k =>
        have hne : i ≠ i + 1 + k := by omega
        have hk' : (s.ctcs.set i r.chip)[i + 1 + k]? = some c := by
          rw [List.getElem?_set_ne hne, ← hk, Nat.add_assoc, Nat.add_comm 1 k]
        obtain ⟨q, hq, htick⟩ := hruns k c hk'
        refine ⟨q, hq, ?_⟩
        rw [← htick, Nat.add_assoc, Nat.add_comm 1 k]
        rfl
    · rw [hctcs]
      simp [List.take_add_one, hi, List.take_set_of_le]
    · rw [htrace, runEvents_cons, List.append_assoc]

end

theorem calcTStatesDiff_of_lt {wrap t1 k : Nat} (ht : t1 < wrap) (hk : k < wrap) :
    calcTStatesDiff wrap t1 ((t1 + k) % wrap) = k := by
  unfold calcTStatesDiff
  by_cases h : t1 + k < wrap
  · rw [Nat.mod_eq_of_lt h, if_pos (Nat.le_add_right t1 k), Nat.add_sub_cancel_left]
  · have hmod : (t1 + k) % wrap = t1 + k - wrap := by
      rw [Nat.mod_eq_sub_mod (Nat.le_of_not_lt h), Nat.mod_eq_of_lt (by omega)]
    rw [hmod, if_neg (by omega)]
    omega

/-- Settles O17: the close by `closeIteration_spec`, the chips from chip 0 on, one T-state of a chip, the difference. -/
theorem iterationTime : Obligations.IterationTime := by
  refine ⟨fun s u h => ?_, fun w n a b => ⟨rfl, ?_⟩, fun wrap t1 k => calcTStatesDiff_of_lt⟩
  · obtain ⟨hu, hticks⟩ := closeIteration_spec h
    rw [List.range_eq_range'] at hticks
    obtain ⟨runs, hlen, hruns, hctcs, htrace⟩ := tickChips_range' hticks (Nat.zero_add _)
    refine ⟨hu, runs, hlen, fun k c hk => ?_, hctcs, htrace⟩
    rw [← Nat.zero_add k] at hk ⊢
    obtain ⟨r, hr, htick⟩ := hruns k c hk
    exact ⟨r, by simpa using hr, htick⟩
  · simp only [Ctc.tick, Ctc.tickOne, Option.bind_eq_some_iff, Option.bind_assoc]
    constructor
    · rintro ⟨a0, h0, a1, h1, a2, h2, a3, h3, h⟩
      exact ⟨a0, a1, a2, a3, h0, h1, h2, h3, h⟩
    · rintro ⟨a0, a1, a2, a3, h0, h1, h2, h3, h⟩
      exact ⟨a0, h0, a1, h1, a2, h2, a3, h3, h⟩

/-! ## The host's interactions -/

theorem hostDoes_iff (es : List HostEvent) (s u : State) : HostDoes es s u ↔ hostEvents es s = some u := by
  induction es generalizing s with
  | nil =>
    constructor
    · rintro ⟨⟩
      rfl
    · rintro ⟨⟩
      exact .nothing _
  | cons e es ih =>
    rw [hostEvents, Option.bind_eq_some_iff]
    constructor
    · rintro (_ | ⟨_, _, _, t, _, he, h⟩)
      exact ⟨t, he, (ih t).1 h⟩
    · rintro ⟨t, he, h⟩
      exact .event e es s t u he ((ih t).2 h)

theorem hostPhase_of_inbox {es : List HostEvent} {rest : List (List HostEvent)} {s : State} (h : s.inbox = es :: rest) :
    hostPhase s = hostEvents es { s with inbox := rest } := by
  rw [hostPhase, h]

/-- A written R reads back (10_state.md R28). -/
theorem refresh_of_fields (v : Byte) :
    BitVec.ofNat 8 (128 * (v.getLsbD 7).toNat + (v.setWidth 7).toNat) = v := by
  apply BitVec.eq_of_toNat_eq
  rw [BitVec.toNat_ofNat, BitVec.toNat_setWidth, bit7_toNat]
  have := v.isLt
  omega

section

variable (s : State)

theorem named8_hostWrite8 (reg q : NamedReg8) (v : Byte) :
    named8 (hostWrite8 reg v s) q = if q = reg then v else named8 s q := by
  cases reg with
  | f =>
    cases q with
    | f => exact pack_unpack v
    | _ => rfl
  | r =>
    cases q with
    | r => exact refresh_of_fields v
    | _ => rfl
  | _ => cases q <;> rfl

theorem named16_hostWrite16 (reg q : NamedReg16) (v : Word) :
    named16 (hostWrite16 reg v s) q = if q = reg then v else named16 s q := by
  cases reg <;> cases q <;> rfl

theorem namedFlag_hostWriteFlag (flag q : NamedFlag) (v : Bool) :
    namedFlag (hostWriteFlag flag v s) q = if q = flag then v else namedFlag s q := by
  cases flag <;> cases q <;> rfl

/-- The accessor writes no index register, SP or PC under an 8-bit name, and nothing outside the CPU record. -/
theorem hostWrite8_frame (reg : NamedReg8) (v : Byte) :
    hostWrite8 reg v s =
      let u := hostWrite8 reg v s
      { s with
        regs := { u.regs with ix := s.regs.ix, iy := s.regs.iy, sp := s.regs.sp }
        flags := u.flags, i := u.i, rlo7 := u.rlo7, rbit7 := u.rbit7 } := by
  cases reg <;> rfl

theorem hostWrite16_frame (reg : NamedReg16) (v : Word) :
    hostWrite16 reg v s =
      let u := hostWrite16 reg v s
      { s with regs := { s.regs with ix := u.regs.ix, iy := u.regs.iy, sp := u.regs.sp }, pc := u.pc } := by
  cases reg <;> rfl

theorem hostWriteFlag_frame (flag : NamedFlag) (v : Bool) :
    hostWriteFlag flag v s =
      let u := hostWriteFlag flag v s
      { s with flags := u.flags, iff1 := u.iff1, iff2 := u.iff2 } := by
  cases flag <;> rfl

end

/-- Settles O21: the script by `hostDoes_iff`, a stop by `hostDoes_stop` and `iteration_stop`, each event by what it
writes. -/
theorem hostInteractions : Obligations.HostInteractions := by
  intro s
  refine ⟨step_quiet, fun es rest hinbox => ⟨fun u hu => ?runs, fun hnone => ?faults, fun rule t hstop ht => ?stops⟩,
    rfl, fun n => rfl, fun a v hm => ⟨_, rfl, rfl, fun b => ?memory⟩, rfl,
    fun reg v => ⟨_, rfl, fun q => named8_hostWrite8 s reg q v, hostWrite8_frame s reg v⟩,
    fun reg v => ⟨_, rfl, fun q => named16_hostWrite16 s reg q v, hostWrite16_frame s reg v⟩,
    fun flag v => ⟨_, rfl, fun q => namedFlag_hostWriteFlag s flag q v, hostWriteFlag_frame s flag v⟩,
    fun m => rfl, fun k c hk n l r => ⟨fun h => ?level, fun h => ?pulse⟩,
    fun k q hq x v => ⟨?strobe, ?fetch⟩, fun p d f => ⟨_, rfl, ?reset⟩⟩
  case runs =>
    exact step_of_hostPhase_some ((hostPhase_of_inbox hinbox).trans ((hostDoes_iff _ _ u).1 hu))
  case faults =>
    refine step_of_hostPhase_none ((hostPhase_of_inbox hinbox).trans (Option.eq_none_iff_forall_ne_some.2 ?_))
    exact fun u hu => hnone ⟨u, (hostDoes_iff _ _ u).2 hu⟩
  case stops =>
    cases hh : hostPhase s with
    | none => cases (step_of_hostPhase_none hh).symm.trans ht
    | some u =>
      have hdoes := (hostDoes_iff _ _ u).2 ((hostPhase_of_inbox hinbox).symm.trans hh)
      have hend := iteration_stop ((step_of_hostPhase_some hh).symm.trans ht)
      rw [runEnded, hend, hostDoes_stop hdoes (.inr hstop), Bool.true_or]
  case memory =>
    exact (Memory.read_write hm a.toNat b.toNat v).trans (by simp only [BitVec.toNat_inj, stored])
  case level => exact (hostEvent_ctcLevel k n l s).trans (ctcOp_of_some hk h)
  case pulse => exact (hostEvent_ctcPulse k n s).trans (ctcOp_of_some hk h)
  case strobe =>
    change some (hostPutIn k x v s) = _
    rw [hostPutIn, hq]
  case fetch =>
    change some (hostFetchOut k x s) = _
    rw [hostFetchOut, hq]
    rfl
  case reset =>
    cases p <;> simp [resetMachine]

end Sys2Proof.Machine

/-! SUPPORT. The CTC chip (spec/61_ctc.md R450 to R468): the period of a timer, trigger inputs and the chain, the
register protocol. -/

namespace Sys2Proof.Machine

open Sys2Proof.Claim

/-! ## The period of a timer -/

/-- The channel after one T-state where nothing is chained, with its zero counts so far (R459, R463). -/
def Channel.ticked : Channel × Nat → Channel × Nat
  | (x, z) =>
    if x.running && !x.counterMode then
      if x.pre - 1 = 0 then
        if x.counter - 1 = 0 then (Channel.rollover { x with pre := x.div.count }, z + 1)
        else ({ x with pre := x.div.count, counter := x.counter - 1 }, z)
      else ({ x with pre := x.pre - 1 }, z)
    else (x, z)

/-- Channel `n` of the chip and how often it has counted zero. -/
def CtcRun.view (a : CtcRun) (n : Chan) : Channel × Nat := (a.chip.chan n, a.zeroCounts.count n)

theorem Ctc.tickChan_unwired_view (n : Chan) (a : CtcRun) :
    ∃ b, Ctc.tickChan .unwired n a = some b ∧ ∀ m, b.view m = if m = n then Channel.ticked (a.view n) else a.view m := by
  unfold Ctc.tickChan Channel.ticked CtcRun.view
  dsimp only
  split
  · split
    · rw [show chainBound = 7 + 1 from rfl, Ctc.decrement_unwired]
      refine ⟨_, rfl, fun m => ?_⟩
      simp only [Ctc.chan_setChan, if_true]
      by_cases h : m = n
      · subst h
        split <;> simp
      · split <;> simp [h, Ne.symm h]
    · exact ⟨_, rfl, fun m => by by_cases h : m = n <;> simp [h]⟩
  · exact ⟨_, rfl, fun m => by by_cases h : m = n <;> simp [h]⟩

/-- In one T-state of a chip with no chain every channel ticks once, on its own (R459). -/
theorem Ctc.tickOne_unwired_view (a : CtcRun) :
    ∃ b, Ctc.tickOne .unwired a = some b ∧ ∀ n, b.view n = Channel.ticked (a.view n) := by
  obtain ⟨a0, h0, v0⟩ := Ctc.tickChan_unwired_view .ch0 a
  obtain ⟨a1, h1, v1⟩ := Ctc.tickChan_unwired_view .ch1 a0
  obtain ⟨a2, h2, v2⟩ := Ctc.tickChan_unwired_view .ch2 a1
  obtain ⟨a3, h3, v3⟩ := Ctc.tickChan_unwired_view .ch3 a2
  refine ⟨a3, by simp [Ctc.tickOne, h0, h1, h2, h3], fun n => ?_⟩
  cases n <;> simp [v0, v1, v2, v3]

theorem Ctc.tick_unwired_view (t : Nat) (a : CtcRun) :
    ∃ b, Ctc.tick .unwired t a = some b ∧ ∀ n, b.view n = Channel.ticked^[t] (a.view n) := by
  induction t generalizing a with
  | zero => exact ⟨a, rfl, fun _ => rfl⟩
  | succ t ih =>
    obtain ⟨b, hb, vb⟩ := Ctc.tickOne_unwired_view a
    obtain ⟨c, hc, vc⟩ := ih b
    refine ⟨c, by rw [Ctc.tick, hb, Option.bind_some, hc], fun n => ?_⟩
    rw [vc, vb, Function.iterate_succ_apply]

/-- A running timer channel whose prescaler is full (R456, R460). -/
structure Channel.FullTimer (x : Channel) : Prop where
  running : x.running = true
  timer : x.counterMode = false
  full : x.pre = x.div.count

theorem Divisor.count_pos (d : Divisor) : 1 ≤ d.count := d.count_inRange.1

section

variable {x : Channel}

theorem Channel.ticked_of_lt (hrun : x.running = true) (hmode : x.counterMode = false) (hpre : 1 < x.pre) (z : Nat) :
    Channel.ticked (x, z) = ({ x with pre := x.pre - 1 }, z) := by
  rw [Channel.ticked, if_pos (by simp [hrun, hmode]), if_neg (by omega)]

theorem Channel.ticked_of_one (hrun : x.running = true) (hmode : x.counterMode = false) (hpre : x.pre = 1) (z : Nat) :
    Channel.ticked (x, z) =
      if x.counter - 1 = 0 then (Channel.rollover { x with pre := x.div.count }, z + 1)
      else ({ x with pre := x.div.count, counter := x.counter - 1 }, z) := by
  rw [Channel.ticked, if_pos (by simp [hrun, hmode]), if_pos (by omega)]

/-- Before it is empty the prescaler goes down by one in each T-state. -/
theorem Channel.FullTimer.iterate_lt (hx : x.FullTimer) {r : Nat} (hr : r < x.div.count) (z : Nat) :
    Channel.ticked^[r] (x, z) = ({ x with pre := x.div.count - r }, z) := by
  induction r with
  | zero => rw [Nat.sub_zero, ← hx.full, Function.iterate_zero_apply]
  | succ r ih =>
    rw [Function.iterate_succ_apply', ih (Nat.lt_of_succ_lt hr)]
    exact Channel.ticked_of_lt (x := { x with pre := x.div.count - r }) hx.running hx.timer (Nat.lt_sub_of_add_lt
      (Nat.add_comm r 1 ▸ hr)) z

/-- One round of the prescaler fills it again and takes 1 from the counter, or reloads that (R459, R463). -/
theorem Channel.FullTimer.iterate_count (hx : x.FullTimer) (z : Nat) :
    Channel.ticked^[x.div.count] (x, z) =
      if x.counter - 1 = 0 then (x.rollover, z + 1) else ({ x with counter := x.counter - 1 }, z) := by
  obtain ⟨r, hr⟩ := Nat.exists_eq_add_of_le' x.div.count_pos
  have hlast : Channel.ticked^[x.div.count] (x, z) = Channel.ticked ({ x with pre := x.div.count - r }, z) := by
    rw [← hx.iterate_lt (by omega), ← Function.iterate_succ_apply' Channel.ticked r, Nat.succ_eq_add_one, ← hr]
  rw [hlast, Channel.ticked_of_one (x := { x with pre := x.div.count - r }) hx.running hx.timer (by dsimp only; omega)]
  dsimp only
  rw [← hx.full]

/-- Before its rollover the counter has gone down by one in each round. -/
theorem Channel.FullTimer.iterate_rounds (hx : x.FullTimer) {q : Nat} (hq : q < x.counter) (z : Nat) :
    Channel.ticked^[x.div.count * q] (x, z) = ({ x with counter := x.counter - q }, z) := by
  induction q with
  | zero => rfl
  | succ q ih =>
    have hc : ¬x.counter - q - 1 = 0 := by omega
    have hy : Channel.FullTimer { x with counter := x.counter - q } := ⟨hx.running, hx.timer, hx.full⟩
    rw [Nat.mul_succ, Nat.add_comm, Function.iterate_add_apply, ih (Nat.lt_of_succ_lt hq)]
    refine (hy.iterate_count z).trans ?_
    rw [if_neg hc]
    rfl

/-- The rollover comes after as many rounds as the counter says, and brings the channel back (R463). -/
theorem Channel.FullTimer.iterate_period (hx : x.FullTimer) (hk : 1 ≤ x.counter) (hr : x.reload = x.counter) (z : Nat) :
    Channel.ticked^[x.counter * x.div.count] (x, z) = ({ x with req := x.req || x.ie }, z + 1) := by
  obtain ⟨q, hq⟩ := Nat.exists_eq_add_of_le' hk
  have hc : x.counter - q = 1 := by omega
  have hy : Channel.FullTimer { x with counter := x.counter - q } := ⟨hx.running, hx.timer, hx.full⟩
  have hsplit : x.counter * x.div.count = x.div.count + x.div.count * q := by
    rw [hq, Nat.succ_mul, Nat.mul_comm, Nat.add_comm]
  rw [hsplit, Function.iterate_add_apply, hx.iterate_rounds (by omega)]
  refine (hy.iterate_count z).trans ?_
  rw [if_pos (by dsimp only; omega), Channel.rollover, ← hr]

/-- Before the rollover no zero has been counted and the request is as it was. -/
theorem Channel.FullTimer.iterate_before (hx : x.FullTimer) {m : Nat} (hm : m < x.counter * x.div.count) (z : Nat) :
    (Channel.ticked^[m] (x, z)).1.req = x.req ∧ (Channel.ticked^[m] (x, z)).2 = z := by
  have hy : Channel.FullTimer { x with counter := x.counter - m / x.div.count } := ⟨hx.running, hx.timer, hx.full⟩
  rw [← Nat.mod_add_div m x.div.count, Function.iterate_add_apply,
    hx.iterate_rounds (Nat.div_lt_of_lt_mul (Nat.mul_comm .. ▸ hm)),
    hy.iterate_lt (Nat.mod_lt m x.div.count_pos)]
  exact ⟨rfl, rfl⟩

end

/-- Settles O57: the channel ticks on its own (`Ctc.tick_unwired_view`), and a full timer comes round after
`counter * div` ticks. -/
theorem ctcTimerPeriod : Obligations.CtcTimerPeriod := by
  intro c n k p x hrun hmode hcounter hreload hpre hdiv hk
  have hcount : x.div.count = p := by
    obtain ⟨hd, rfl⟩ | ⟨hd, rfl⟩ := hdiv <;> rw [hd] <;> rfl
  have hx : x.FullTimer := ⟨hrun, hmode, hpre.trans hcount.symm⟩
  have htick (t : Nat) := Ctc.tick_unwired_view t { chip := c, zeroCounts := [] }
  rw [← hcounter, ← hcount]
  refine ⟨fun m hm => ?_, ?_⟩
  · obtain ⟨r, hr, hview⟩ := htick m
    have hview : (r.chip.chan n, r.zeroCounts.count n) = Channel.ticked^[m] (x, 0) := hview n
    obtain ⟨hreq, hzero⟩ := hx.iterate_before hm 0
    rw [← hview] at hreq hzero
    exact ⟨r, hr, hreq, List.count_eq_zero.1 hzero⟩
  · obtain ⟨r, hr, hview⟩ := htick (x.counter * x.div.count)
    have hview : (r.chip.chan n, r.zeroCounts.count n) = Channel.ticked^[x.counter * x.div.count] (x, 0) := hview n
    rw [hx.iterate_period (hcounter ▸ hk) (hreload.trans hcounter.symm)] at hview
    obtain ⟨hchan, hzero⟩ := Prod.ext_iff.1 hview
    exact ⟨r, hr, hchan, hzero⟩

/-! ## Counting and the chain -/

section

variable {w : Chain} {n : Chan} {a b : CtcRun}

/-- `Decrement(n)` (R463, R464) in the words of the statements. -/
theorem Ctc.decrement_succ (w : Chain) (fuel : Nat) (n : Chan) (a : CtcRun) :
    Ctc.decrement w (fuel + 1) n a =
      if (a.chip.chan n).counter - 1 = 0 then
        match chainTarget w n with
        | none => some (rolledOver n a)
        | some m =>
          if ((rolledOver n a).chip.chan m).armed then some (startedChan m (rolledOver n a))
          else if ((rolledOver n a).chip.chan m).running && ((rolledOver n a).chip.chan m).counterMode then
            Ctc.decrement w fuel m (rolledOver n a)
          else some (rolledOver n a)
      else some { a with chip := a.chip.setChan n { a.chip.chan n with counter := (a.chip.chan n).counter - 1 } } :=
  rfl

theorem countsEdges_iff (x : Channel) :
    countsEdges x ↔ x.armed = false ∧ (x.running && x.counterMode) = true := by
  rw [countsEdges, Bool.and_eq_true]

theorem rolledOver_inRange (ha : ∀ m, (a.chip.chan m).inRange) (m : Chan) :
    ((rolledOver n a).chip.chan m).inRange := by
  rw [rolledOver, Ctc.chan_setChan]
  split
  · exact Channel.inRange_rollover (ha n)
  · exact ha m

/-- What a count that ends does (R463, R464). -/
theorem Ctc.decrement_counted {fuel : Nat} (h : Ctc.decrement w fuel n a = some b)
    (ha : ∀ m, (a.chip.chan m).inRange) : Counted w n a b := by
  induction fuel generalizing n a with
  | zero => cases h
  | succ fuel ih =>
    have hpos := (ha n).1
    rw [Ctc.decrement_succ] at h
    split at h
    next hzero =>
      have hone : (a.chip.chan n).counter = 1 := by omega
      cases hw : chainTarget w n with
      | none =>
        rw [hw] at h
        cases h
        exact .unchained n a hone hw
      | some m =>
        rw [hw] at h
        dsimp only at h
        split at h
        next harmed =>
          cases h
          exact .starts n m a hone hw harmed
        next harmed =>
          rw [Bool.not_eq_true] at harmed
          split at h
          next hcounts =>
            exact .counts n m a b hone hw ((countsEdges_iff _).2 ⟨harmed, hcounts⟩) (ih h (rolledOver_inRange ha))
          next hcounts =>
            cases h
            exact .ignored n m a hone hw harmed fun hc => hcounts ((countsEdges_iff _).1 hc).2
    next hzero =>
      cases h
      exact .down n a (by omega)

/-- A chain that only goes up ends: each pulse is on a channel with a higher number (R464). -/
theorem Ctc.decrement_completes (hw : Upward w) {fuel : Nat} (hf : 4 ≤ fuel + chanIndex n) (a : CtcRun) :
    ∃ b, Ctc.decrement w fuel n a = some b := by
  induction fuel generalizing n a with
  | zero => cases n <;> simp [chanIndex] at hf
  | succ fuel ih =>
    rw [Ctc.decrement_succ]
    split
    · cases ht : chainTarget w n with
      | none => exact ⟨_, rfl⟩
      | some m =>
        have hup := hw n m ht
        dsimp only
        split
        · exact ⟨_, rfl⟩
        · split
          · exact ih (by omega) _
          · exact ⟨_, rfl⟩
    · exact ⟨_, rfl⟩

/-! ## Trigger inputs -/

theorem Ctc.pulse_of_armed (h : (a.chip.chan n).armed = true) : Ctc.pulse w n a = some (startedChan n a) :=
  if_pos h

theorem Ctc.pulse_of_counts (h : countsEdges (a.chip.chan n)) : Ctc.pulse w n a = Ctc.decrement w chainBound n a := by
  obtain ⟨harmed, hcounts⟩ := (countsEdges_iff _).1 h
  rw [Ctc.pulse, if_neg (Bool.eq_false_iff.1 harmed), if_pos hcounts]

theorem Ctc.pulse_of_ignored (harmed : (a.chip.chan n).armed = false) (h : ¬countsEdges (a.chip.chan n)) :
    Ctc.pulse w n a = some a := by
  rw [Ctc.pulse, if_neg (Bool.eq_false_iff.1 harmed), if_neg fun hc => h ((countsEdges_iff _).2 ⟨harmed, hc⟩)]

/-- The level change to `l` is an active edge of the channel (R462). -/
def activeEdge (x : Channel) (l : Bool) : Prop :=
  if x.rising then x.level = false ∧ l = true else x.level = true ∧ l = false

theorem activeEdge_iff (x : Channel) (l : Bool) :
    ((x.rising && !x.level && l) || (!x.rising && x.level && !l)) = true ↔ activeEdge x l := by
  unfold activeEdge
  cases x.rising <;> simp

/-- Channel `n` of the run with its trigger input at the level `l`. -/
def leveled (n : Chan) (l : Bool) (a : CtcRun) : CtcRun :=
  { a with chip := a.chip.setChan n { a.chip.chan n with level := l } }

theorem Ctc.setLevel_of_edge {l : Bool} (h : activeEdge (a.chip.chan n) l) :
    Ctc.setLevel w n l a = Ctc.pulse w n (leveled n l a) :=
  if_pos ((activeEdge_iff _ l).2 h)

theorem Ctc.setLevel_of_not_edge {l : Bool} (h : ¬activeEdge (a.chip.chan n) l) :
    Ctc.setLevel w n l a = some (leveled n l a) :=
  if_neg (mt (activeEdge_iff _ l).1 h)

theorem leveled_chan (n : Chan) (l : Bool) (a : CtcRun) :
    (leveled n l a).chip.chan n = { a.chip.chan n with level := l } := by
  simp [leveled]

theorem leveled_chan_of_ne {m : Chan} (h : m ≠ n) (l : Bool) (a : CtcRun) :
    (leveled n l a).chip.chan m = a.chip.chan m := by
  simp [leveled, h]

/-- A count where nothing is chained (R463). -/
theorem Ctc.pulse_unwired_of_counts (h : countsEdges (a.chip.chan n)) :
    Ctc.pulse .unwired n a =
      some (if (a.chip.chan n).counter - 1 = 0 then rolledOver n a
        else { a with chip := a.chip.setChan n { a.chip.chan n with counter := (a.chip.chan n).counter - 1 } }) :=
  (Ctc.pulse_of_counts h).trans (Ctc.decrement_unwired 7 n a)

/-- A pulse where nothing is chained completes and leaves the other channels (R460, R461, R463). -/
theorem Ctc.pulse_unwired (n : Chan) (a : CtcRun) :
    ∃ b, Ctc.pulse .unwired n a = some b ∧ ∀ m, m ≠ n → b.chip.chan m = a.chip.chan m := by
  by_cases harmed : (a.chip.chan n).armed = true
  · exact ⟨_, Ctc.pulse_of_armed harmed, fun m hm => by simp [startedChan, hm]⟩
  · rw [Bool.not_eq_true] at harmed
    by_cases hc : countsEdges (a.chip.chan n)
    · refine ⟨_, Ctc.pulse_unwired_of_counts hc, fun m hm => ?_⟩
      split <;> simp [rolledOver, hm]
    · exact ⟨a, Ctc.pulse_of_ignored harmed hc, fun _ _ => rfl⟩

/-! ## One T-state of a channel -/

section

variable (hrun : (a.chip.chan n).running = true) (hmode : (a.chip.chan n).counterMode = false)
include hrun hmode

theorem Ctc.tickChan_of_lt (hpre : 2 ≤ (a.chip.chan n).pre) :
    Ctc.tickChan w n a =
      some { a with chip := a.chip.setChan n { a.chip.chan n with pre := (a.chip.chan n).pre - 1 } } := by
  rw [Ctc.tickChan, if_pos (by simp [hrun, hmode]), if_neg (by omega)]

theorem Ctc.tickChan_of_one (hpre : (a.chip.chan n).pre = 1) :
    Ctc.tickChan w n a =
      Ctc.decrement w chainBound n
        { a with chip := a.chip.setChan n { a.chip.chan n with pre := (a.chip.chan n).div.count } } := by
  rw [Ctc.tickChan, if_pos (by simp [hrun, hmode]), if_pos (by omega)]

end

theorem Ctc.tickChan_of_not_timer
    (h : ¬((a.chip.chan n).running = true ∧ (a.chip.chan n).counterMode = false)) : Ctc.tickChan w n a = some a := by
  rw [Ctc.tickChan, if_neg (by simpa using h)]

theorem four_le_chainBound_add (n : Chan) : 4 ≤ chainBound + chanIndex n := Nat.le_add_right_of_le (by decide)

end

/-- Settles O58: an edge pulses, and a pulse starts, counts or does nothing; `Ctc.decrement_counted` says what a count
does. -/
theorem ctcTrigger : Obligations.CtcTrigger := by
  refine ⟨fun c n l => ?unchained, fun w c n l seen hc => ?chained⟩
  case unchained =>
    intro x edge start x1
    have hx1 : (leveled n l start).chip.chan n = x1 := leveled_chan n l start
    have hothers {m : Chan} (hm : m ≠ n) : (leveled n l start).chip.chan m = c.chan m := leveled_chan_of_ne hm l start
    have counts (harmed : x.armed = false) (hrun : x.running = true) (hmode : x.counterMode = true) :
        countsEdges ((leveled n l start).chip.chan n) := by
      rw [hx1]
      exact ⟨harmed, hrun, hmode⟩
    by_cases hedge : edge
    · obtain ⟨r, hr, hrest⟩ := Ctc.pulse_unwired n (leveled n l start)
      refine ⟨r, (Ctc.setLevel_of_edge (a := start) hedge).trans hr, fun m hm => (hrest m hm).trans (hothers hm),
        fun h => absurd hedge h, fun _ harmed => ?starts, fun _ harmed hrun hmode hcounter => ?down,
        fun _ harmed hrun hmode hcounter => ?rolls, fun _ harmed hstill => ?ignored⟩
      case starts =>
        cases hr.symm.trans (Ctc.pulse_of_armed (by rw [hx1]; exact harmed))
        simp only [startedChan, Ctc.chan_setChan, if_true, hx1]
        exact ⟨rfl, rfl⟩
      case down =>
        cases hr.symm.trans (Ctc.pulse_unwired_of_counts (counts harmed hrun hmode))
        rw [hx1, if_neg (by dsimp only [x1]; omega)]
        simp only [Ctc.chan_setChan, if_true]
        exact ⟨rfl, rfl⟩
      case rolls =>
        cases hr.symm.trans (Ctc.pulse_unwired_of_counts (counts harmed hrun hmode))
        rw [hx1, if_pos (by dsimp only [x1]; omega)]
        simp only [rolledOver, Ctc.chan_setChan, if_true, hx1]
        exact ⟨rfl, rfl⟩
      case ignored =>
        cases hr.symm.trans (Ctc.pulse_of_ignored (by rw [hx1]; exact harmed) (by rw [hx1]; exact fun h => hstill h.2))
        exact ⟨hx1, rfl⟩
    · exact ⟨_, Ctc.setLevel_of_not_edge (a := start) hedge, fun m hm => hothers hm, fun _ => ⟨hx1, rfl⟩,
        fun h => absurd h hedge, fun h => absurd h hedge, fun h => absurd h hedge, fun h => absurd h hedge⟩
  case chained =>
    intro x a edge leveled down reloaded
    have ha : ∀ m, (a.chip.chan m).inRange := (Ctc.inRange_iff c).1 hc
    refine ⟨Ctc.setLevel_of_edge (a := a), Ctc.setLevel_of_not_edge (a := a), Ctc.pulse_of_armed (a := a),
      Ctc.pulse_of_ignored (a := a), fun h => ?counts, Ctc.tickChan_of_lt (a := a),
      fun hrun hmode hpre => ?tick, Ctc.tickChan_of_not_timer (a := a)⟩
    case counts =>
      rw [Ctc.pulse_of_counts h]
      exact ⟨fun b hb => Ctc.decrement_counted hb ha,
        fun hw => Ctc.decrement_completes hw (four_le_chainBound_add n) a⟩
    case tick =>
      have hreloaded (m : Chan) : (reloaded.chip.chan m).inRange := by
        simp only [reloaded, Ctc.chan_setChan]
        split
        · exact Channel.inRange_reloadPre (ha n)
        · exact ha m
      rw [Ctc.tickChan_of_one (a := a) hrun hmode hpre]
      exact ⟨fun b hb => Ctc.decrement_counted hb hreloaded,
        fun hw => Ctc.decrement_completes hw (four_le_chainBound_add n) _⟩

/-! ## The register protocol -/

section

variable {c : Ctc} {n : Chan} {x : Channel} (v : Byte)

theorem Ctc.write_of_waitTC (h : (c.chan n).waitTC = true) : c.write n v = c.setChan n ((c.chan n).timeConst v) :=
  if_pos h

theorem Ctc.write_of_control (h : (c.chan n).waitTC = false) (hv : v.getLsbD 0 = true) :
    c.write n v = c.setChan n ((c.chan n).control v) := by
  rw [Ctc.write, if_neg (Bool.eq_false_iff.1 h), if_pos hv]

theorem Ctc.write_of_vector (h : (c.chan n).waitTC = false) (hv : v.getLsbD 0 = false) :
    c.write n v = { c with vecbase := v &&& 0xF8 } := by
  rw [Ctc.write, if_neg (Bool.eq_false_iff.1 h), if_neg (Bool.eq_false_iff.1 hv)]

/-- A control word sets the mode bits; the reset bit stops the channel (R454, R455). -/
theorem Channel.control_eq (x : Channel) :
    x.control v =
      { x with
        ie := v.getLsbD 7, counterMode := v.getLsbD 6, div := if v.getLsbD 5 then .by256 else .by16
        rising := v.getLsbD 4, trigWait := v.getLsbD 3, waitTC := v.getLsbD 2
        running := x.running && !v.getLsbD 1, armed := x.armed && !v.getLsbD 1
        req := x.req && v.getLsbD 7 } := by
  unfold Channel.control
  cases v.getLsbD 1 <;> simp

/-- A channel that runs or waits for its trigger only takes the new reload value (R456). -/
theorem Channel.timeConst_of_started (h : x.running = true ∨ x.armed = true) :
    x.timeConst v = { x with reload := timeConstant v, waitTC := false } := by
  rw [Channel.timeConst, if_neg]
  obtain h | h := h <;> simp [h]

/-- A stopped channel is loaded and starts, or waits for its trigger (R456). -/
theorem Channel.timeConst_of_stopped (hrun : x.running = false) (harmed : x.armed = false) :
    x.timeConst v =
      { x with
        reload := timeConstant v, waitTC := false, counter := timeConstant v, pre := x.div.count
        running := x.counterMode || !x.trigWait, armed := !x.counterMode && x.trigWait } := by
  rw [Channel.timeConst, if_pos (by simp [hrun, harmed])]
  cases x.counterMode <;> cases x.trigWait <;> simp [hrun, harmed]

theorem Channel.timeConst_reload (x : Channel) : (x.timeConst v).reload = timeConstant v := by
  unfold Channel.timeConst
  dsimp only
  split
  · split <;> rfl
  · rfl

theorem Channel.timeConst_waitTC (x : Channel) : (x.timeConst v).waitTC = false := by
  unfold Channel.timeConst
  dsimp only
  split
  · split <;> rfl
  · rfl

theorem high5_toNat (v : Byte) : (v &&& 0xF8).toNat = v.toNat / 8 * 8 := by
  revert v
  decide

end

/-- Settles O56: the byte is a time constant, a control word or a vector (R453). -/
theorem ctcRegisters : Obligations.CtcRegisters := by
  intro c n v x y
  refine ⟨fun m hm => ?others, fun hwait => ?timeConst, fun hwait hv => ?control, fun hwait hv => ?vector⟩
  case others =>
    cases hwait : x.waitTC with
    | true => rw [Ctc.write_of_waitTC v hwait, Ctc.chan_setChan, if_neg hm]
    | false =>
      cases hv : v.getLsbD 0 with
      | true => rw [Ctc.write_of_control v hwait hv, Ctc.chan_setChan, if_neg hm]
      | false =>
        rw [Ctc.write_of_vector v hwait hv]
        cases m <;> rfl
  case timeConst =>
    have hy : y = x.timeConst v := by
      rw [show y = (c.write n v).chan n from rfl, Ctc.write_of_waitTC v hwait, Ctc.chan_setChan, if_pos rfl]
    rw [Ctc.write_of_waitTC v hwait, Ctc.setChan_vecbase, hy, Channel.timeConst_reload, Channel.timeConst_waitTC]
    exact ⟨rfl, rfl, rfl, Channel.timeConst_of_started v, Channel.timeConst_of_stopped v⟩
  case control =>
    have hy : y = x.control v := by
      rw [show y = (c.write n v).chan n from rfl, Ctc.write_of_control v hwait hv, Ctc.chan_setChan, if_pos rfl]
    rw [Ctc.write_of_control v hwait hv, Ctc.setChan_vecbase, hy]
    exact ⟨rfl, Channel.control_eq v x⟩
  case vector =>
    have hy : y = x := by
      rw [show y = (c.write n v).chan n from rfl, Ctc.write_of_vector v hwait hv]
      cases n <;> rfl
    rw [Ctc.write_of_vector v hwait hv]
    exact ⟨hy, high5_toNat v⟩

end Sys2Proof.Machine

/-! SUPPORT. The CTC and PIO chips as interrupt sources: the first active channel or port, its acceptance and the end of
its service (spec/61_ctc.md R466 to R468, 62_pio.md R507 to R509). -/

namespace Sys2Proof.Machine

open Sys2Proof.Claim

/-! ## The CTC chip -/

theorem forall_chan {P : Chan → Prop} : (∀ n, P n) ↔ P .ch0 ∧ P .ch1 ∧ P .ch2 ∧ P .ch3 :=
  ⟨fun h => ⟨h _, h _, h _, h _⟩, fun ⟨h0, h1, h2, h3⟩ n => by cases n <;> assumption⟩

section

variable {c : Ctc} {n : Chan}

theorem Channel.active_iff (x : Channel) : x.active = true ↔ x.acc = true ∨ (x.req = true ∧ x.ie = true) := by
  rw [Channel.active, Bool.or_eq_true, Bool.and_eq_true]

/-- The lowest-numbered active channel (R466). -/
theorem Ctc.first_eq_some_iff :
    c.first = some n ↔ (c.chan n).active = true ∧ ∀ m, chanIndex m < chanIndex n → ¬(c.chan m).active = true := by
  unfold Ctc.first
  rw [forall_chan]
  cases n <;> simp only [Ctc.chan, chanIndex] <;> split_ifs <;> simp_all

theorem Ctc.hasBeenAccepted_iff : c.hasBeenAccepted = true ↔ ∃ n, c.first = some n ∧ (c.chan n).acc = true := by
  unfold Ctc.hasBeenAccepted
  cases c.first <;> simp

theorem Ctc.hasRequest_iff : c.hasRequest = true ↔ ∃ n, c.first = some n ∧ (c.chan n).acc = false := by
  unfold Ctc.hasRequest
  cases c.first <;> simp

theorem Ctc.accept_of_first (h : c.first = some n) :
    c.accept = (c.vector n, c.setChan n { c.chan n with req := false, acc := true }) := by
  rw [Ctc.accept, h]

/-- The channel that is accepted stays the first active one: it is in service now (R467). -/
theorem Ctc.first_accept (h : c.first = some n) : c.accept.2.first = some n := by
  obtain ⟨-, hlower⟩ := Ctc.first_eq_some_iff.1 h
  rw [Ctc.accept_of_first h, Ctc.first_eq_some_iff, Ctc.chan_setChan, if_pos rfl]
  refine ⟨rfl, fun m hm => ?_⟩
  have hne : m ≠ n := by rintro rfl; exact Nat.lt_irrefl _ hm
  rw [Ctc.chan_setChan, if_neg hne]
  exact hlower m hm

/-- The lowest accepted channel leaves service (R468). -/
theorem Ctc.finish_of_lowest (hacc : (c.chan n).acc = true)
    (hlower : ∀ m, chanIndex m < chanIndex n → (c.chan m).acc = false) :
    c.finish = c.setChan n { c.chan n with acc := false } := by
  rw [forall_chan] at hlower
  obtain ⟨h0, h1, h2, -⟩ := hlower
  cases n <;> simp_all [Ctc.finish, Ctc.chan, Ctc.setChan, chanIndex]

theorem Ctc.finish_of_none (h : ∀ n, (c.chan n).acc = false) : c.finish = c := by
  obtain ⟨h0, h1, h2, h3⟩ := forall_chan.1 h
  simp_all [Ctc.finish, Ctc.chan]

theorem Channel.acc_of_not_active {x : Channel} (h : ¬x.active = true) : x.acc = false := by
  rw [Channel.active_iff, not_or, Bool.not_eq_true] at h
  exact h.1

/-- The acceptance of a chip that requests, and the end of that service (R467, R468). -/
theorem Ctc.accept_spec (hn : c.first = some n) (hacc : (c.chan n).acc = false) :
    c.accept.1 = (c.vecbase ||| BitVec.ofNat 8 (2 * chanIndex n)) ∧
      c.accept.2 = c.setChan n { c.chan n with req := false, acc := true } ∧
      c.accept.2.hasBeenAccepted = true ∧ c.accept.2.hasRequest = false ∧
      c.accept.2.finish = c.setChan n { c.chan n with req := false } := by
  have hfirst := Ctc.first_accept hn
  have haccept := Ctc.accept_of_first hn
  obtain ⟨-, hlower⟩ := Ctc.first_eq_some_iff.1 hfirst
  have hchan : c.accept.2.chan n = { c.chan n with req := false, acc := true } := by
    rw [haccept, Ctc.chan_setChan, if_pos rfl]
  refine ⟨by rw [haccept, Ctc.vector], by rw [haccept], Ctc.hasBeenAccepted_iff.2 ⟨n, hfirst, by rw [hchan]⟩, ?_, ?_⟩
  · refine Bool.eq_false_iff.2 fun h => ?_
    obtain ⟨m, hm, hmacc⟩ := Ctc.hasRequest_iff.1 h
    cases hfirst.symm.trans hm
    rw [hchan] at hmacc
    cases hmacc
  · rw [Ctc.finish_of_lowest (by rw [hchan]) fun m hm => Channel.acc_of_not_active (hlower m hm), hchan, haccept,
      Ctc.setChan_setChan, ← hacc]

end

/-! ## The PIO chip -/

section

variable {p : Pio} {x : PortId}

theorem Port.active_iff (q : Port) : q.active = true ↔ q.acc = true ∨ (q.req = true ∧ q.ie = true) := by
  rw [Port.active, Bool.or_eq_true, Bool.and_eq_true]

/-- Port A before port B (62_pio.md R507). -/
theorem Pio.first_eq_some_iff :
    p.first = some x ↔ (p.port x).active = true ∧ (x = .b → ¬p.a.active = true) := by
  unfold Pio.first
  cases x <;> simp only [Pio.port] <;> split_ifs <;> simp_all

theorem Pio.hasBeenAccepted_iff : p.hasBeenAccepted = true ↔ ∃ x, p.first = some x ∧ (p.port x).acc = true := by
  unfold Pio.hasBeenAccepted
  cases p.first <;> simp

theorem Pio.hasRequest_iff : p.hasRequest = true ↔ ∃ x, p.first = some x ∧ (p.port x).acc = false := by
  unfold Pio.hasRequest
  cases p.first <;> simp

theorem Pio.accept_of_first (h : p.first = some x) :
    p.accept = ((p.port x).vector, p.setPort x { p.port x with req := false, acc := true }) := by
  rw [Pio.accept, h]

/-- The port that is accepted stays the first active one: it is in service now (R508). -/
theorem Pio.first_accept (h : p.first = some x) : p.accept.2.first = some x := by
  obtain ⟨-, hlower⟩ := Pio.first_eq_some_iff.1 h
  rw [Pio.accept_of_first h, Pio.first_eq_some_iff, Pio.port_setPort, if_pos rfl]
  refine ⟨rfl, ?_⟩
  rintro rfl
  exact hlower rfl

/-- The first accepted port leaves service (R509). -/
theorem Pio.finish_of_first (hacc : (p.port x).acc = true) (hlower : x = .b → p.a.acc = false) :
    p.finish = p.setPort x { p.port x with acc := false } := by
  cases x with
  | a => exact if_pos hacc
  | b => exact (if_neg (Bool.eq_false_iff.1 (hlower rfl))).trans (if_pos hacc)

theorem Pio.finish_of_none (ha : p.a.acc = false) (hb : p.b.acc = false) : p.finish = p := by
  simp [Pio.finish, ha, hb]

theorem Port.acc_of_not_active {q : Port} (h : ¬q.active = true) : q.acc = false := by
  rw [Port.active_iff, not_or, Bool.not_eq_true] at h
  exact h.1

/-- The acceptance of a chip that requests, and the end of that service (R508, R509). -/
theorem Pio.accept_spec (hx : p.first = some x) (hacc : (p.port x).acc = false) :
    p.accept.1 = (p.port x).vector ∧
      p.accept.2 = p.setPort x { p.port x with req := false, acc := true } ∧
      p.accept.2.hasBeenAccepted = true ∧ p.accept.2.hasRequest = false ∧
      p.accept.2.finish = p.setPort x { p.port x with req := false } := by
  have hfirst := Pio.first_accept hx
  have haccept := Pio.accept_of_first hx
  obtain ⟨-, hlower⟩ := Pio.first_eq_some_iff.1 hfirst
  have hport : p.accept.2.port x = { p.port x with req := false, acc := true } := by
    rw [haccept, Pio.port_setPort, if_pos rfl]
  refine ⟨by rw [haccept], by rw [haccept], Pio.hasBeenAccepted_iff.2 ⟨x, hfirst, by rw [hport]⟩, ?_, ?_⟩
  · refine Bool.eq_false_iff.2 fun h => ?_
    obtain ⟨y, hy, hyacc⟩ := Pio.hasRequest_iff.1 h
    cases hfirst.symm.trans hy
    rw [hport] at hyacc
    cases hyacc
  · rw [Pio.finish_of_first (by rw [hport]) fun hb => Port.acc_of_not_active (hlower hb), hport, haccept,
      Pio.setPort_setPort, ← hacc]

end

/-- Settles O59: `first` decides whether a chip requests and which channel or port is accepted; an accepted one is the
first of its chip to finish. -/
theorem sourceService : Obligations.SourceService := by
  refine ⟨fun c => ?ctc, fun p => ?pio⟩
  case ctc =>
    intro active isFirst
    have hfirst (n : Chan) : c.first = some n ↔ isFirst n := by
      rw [Ctc.first_eq_some_iff]
      simp only [Channel.active_iff]
      exact Iff.rfl
    refine ⟨hfirst, Ctc.hasBeenAccepted_iff.trans (exists_congr fun n => and_congr_left' (hfirst n)),
      Ctc.hasRequest_iff.trans (exists_congr fun n => and_congr_left' (hfirst n)), fun h => ?_,
      fun n => Ctc.finish_of_lowest, Ctc.finish_of_none⟩
    obtain ⟨n, hn, hacc⟩ := Ctc.hasRequest_iff.1 h
    exact ⟨n, (hfirst n).1 hn, Ctc.accept_spec hn hacc⟩
  case pio =>
    intro active isFirst
    have hfirst (x : PortId) : p.first = some x ↔ isFirst x := by
      rw [Pio.first_eq_some_iff]
      simp only [Port.active_iff]
      exact Iff.rfl
    refine ⟨hfirst, Pio.hasBeenAccepted_iff.trans (exists_congr fun x => and_congr_left' (hfirst x)),
      Pio.hasRequest_iff.trans (exists_congr fun x => and_congr_left' (hfirst x)), fun h => ?_,
      fun x => Pio.finish_of_first, Pio.finish_of_none⟩
    obtain ⟨x, hx, hacc⟩ := Pio.hasRequest_iff.1 h
    exact ⟨x, (hfirst x).1 hx, Pio.accept_spec hx hacc⟩

end Sys2Proof.Machine

/-! SUPPORT. The PIO chip: the bit-mode condition, the control protocol, the data path and the handshake of a port
(spec/62_pio.md R493 to R506). -/

namespace Sys2Proof.Machine

open Sys2Proof.Claim

/-! ## Bytes by their bits -/

theorem byte_ne_zero_iff (v : Byte) : v ≠ 0 ↔ ∃ i < 8, v.getLsbD i = true := by
  constructor
  · intro hv
    by_contra hnone
    refine hv (BitVec.eq_of_getLsbD_eq fun i hi => ?_)
    change v.getLsbD i = (0#8).getLsbD i
    rw [BitVec.getLsbD_zero]
    exact Bool.eq_false_iff.2 fun h => hnone ⟨i, hi, h⟩
  · rintro ⟨i, -, hbit⟩ rfl
    simp at hbit

theorem byte_and_eq_right_iff (v m : Byte) :
    v &&& m = m ↔ ∀ i < 8, m.getLsbD i = true → v.getLsbD i = true := by
  constructor
  · intro h i _ hm
    rw [← h, BitVec.getLsbD_and, Bool.and_eq_true] at hm
    exact hm.1
  · intro h
    refine BitVec.eq_of_getLsbD_eq fun i hi => ?_
    rw [BitVec.getLsbD_and]
    cases hm : m.getLsbD i with
    | false => exact Bool.and_false _
    | true => rw [h i hi hm, Bool.and_self]

/-! ## The condition of bit mode -/

section

variable (q : Port)

theorem Port.visible_getLsbD {i : Nat} (hi : i < 8) : q.visible.getLsbD i = visibleLine q i := by
  unfold Port.visible visibleLine
  simp only [BitVec.getLsbD_or, BitVec.getLsbD_and, BitVec.getLsbD_not, hi]
  cases q.io.getLsbD i <;> simp

/-- The lines at the active level, as a byte (R505). -/
def Port.activeLines : Byte := if q.activeHigh then q.visible else ~~~q.visible

theorem Port.activeLines_getLsbD {i : Nat} (hi : i < 8) :
    q.activeLines.getLsbD i = true ↔ visibleLine q i = q.activeHigh := by
  unfold Port.activeLines
  rw [← q.visible_getLsbD hi]
  cases q.activeHigh <;> simp [hi]

theorem Port.monitored_getLsbD {i : Nat} (hi : i < 8) : (~~~q.mask).getLsbD i = true ↔ q.mask.getLsbD i = false := by
  simp [hi]

/-- `Cond(X)` line by line (R505). -/
theorem Port.condition_iff : q.condition = true ↔ BitCondition q := by
  have hmonitored : ~~~q.mask ≠ 0 ↔ ∃ i, i < 8 ∧ q.mask.getLsbD i = false := by
    rw [byte_ne_zero_iff]
    exact exists_congr fun i => and_congr_right fun hi => q.monitored_getLsbD hi
  have hall : q.activeLines &&& ~~~q.mask = ~~~q.mask ↔
      ∀ i, i < 8 ∧ q.mask.getLsbD i = false → visibleLine q i = q.activeHigh := by
    rw [byte_and_eq_right_iff]
    refine forall_congr' fun i => ?_
    rw [and_imp]
    exact forall_congr' fun hi => by rw [q.monitored_getLsbD hi, q.activeLines_getLsbD hi]
  have hany : q.activeLines &&& ~~~q.mask ≠ 0 ↔
      ∃ i, (i < 8 ∧ q.mask.getLsbD i = false) ∧ visibleLine q i = q.activeHigh := by
    rw [byte_ne_zero_iff]
    refine exists_congr fun i => ?_
    rw [and_assoc]
    refine and_congr_right fun hi => ?_
    rw [BitVec.getLsbD_and, Bool.and_eq_true, q.monitored_getLsbD hi, q.activeLines_getLsbD hi, and_comm]
  have hcondition : q.condition =
      if q.mode ≠ .bitMode then false
      else if ~~~q.mask = 0 then false
      else if q.andMode then decide (q.activeLines &&& ~~~q.mask = ~~~q.mask)
      else decide (q.activeLines &&& ~~~q.mask ≠ 0) := rfl
  rw [hcondition, BitCondition, ← hmonitored, ← hall, ← hany]
  by_cases hmode : q.mode = .bitMode
  · by_cases hm : ~~~q.mask = 0
    · simp [hmode, hm]
    · cases q.andMode <;> simp [hmode]
  · simp [hmode]

theorem Port.recomputes : Recomputes q q.recompute := ⟨q.condition, q.condition_iff, rfl⟩

end

/-! ## One port of the chip -/

section

variable {p : Pio} {x : PortId} {q : Port} {law : Port → Prop}

theorem onlyPort_setPort (h : law q) : OnlyPort p (p.setPort x q) x law := by
  refine ⟨?_, fun y hy => ?_⟩
  · rwa [Pio.port_setPort, if_pos rfl]
  · rw [Pio.port_setPort, if_neg hy]

/-- `Evaluate(X)` after port X has become `q` (R505, R506). -/
theorem onlyPort_evaluate (p : Pio) (x : PortId) (q : Port) :
    OnlyPort p ((p.setPort x q).evaluate x) x (Evaluates (x = .b ∧ p.a.mode = .byteBidir) q) := by
  have ha : x = .b → (p.setPort x q).a = p.a := by rintro rfl; rfl
  rw [Pio.evaluate, Pio.port_setPort, if_pos rfl, Pio.setPort_setPort]
  refine onlyPort_setPort ⟨q.condition, _, q.condition_iff, ?_, rfl⟩
  rw [← q.condition_iff]
  by_cases hx : x = .b
  · rw [ha hx]
    simp [hx, and_assoc]
  · simp [hx, and_assoc]

end

/-! ## The control protocol -/

section

variable (q : Port) (v : Byte)

theorem modeNumber_ofBits : modeNumber (PioMode.ofBits v) = v.toNat / 64 := by
  revert v
  decide

theorem lowDigit_eq_iff {k : Nat} (hk : k < 16) : v &&& 0x0F = BitVec.ofNat 8 k ↔ v.toNat % 16 = k := by
  rw [← BitVec.toNat_inj, lowDigit_toNat, BitVec.toNat_ofNat, Nat.mod_eq_of_lt (a := k) (by omega)]

theorem bit0_eq_false_iff : v.getLsbD 0 = false ↔ v.toNat % 2 = 0 := by
  rw [← bit0_toNat]
  cases v.getLsbD 0 <;> simp

/-- A control byte by the order of tests of R493. -/
theorem Port.controlWrite_law : ControlLaw q v (q.controlWrite v) := by
  unfold ControlLaw Port.controlWrite
  cases q.expect with
  | ioMask | intMask => exact Port.recomputes _
  | nothing =>
    dsimp only
    have low15 : v &&& 0x0F = 0x0F ↔ v.toNat % 16 = 15 := lowDigit_eq_iff v (by decide)
    have low7 : v &&& 0x0F = 0x07 ↔ v.toNat % 16 = 7 := lowDigit_eq_iff v (by decide)
    have low3 : v &&& 0x0F = 0x03 ↔ v.toNat % 16 = 3 := lowDigit_eq_iff v (by decide)
    simp only [Bool.not_eq_true', bit0_eq_false_iff, low15, low7, low3]
    by_cases hvector : v.toNat % 2 = 0
    · rw [if_pos hvector, if_pos hvector]
    rw [if_neg hvector, if_neg hvector]
    by_cases hmode : v.toNat % 16 = 15
    · rw [if_pos hmode, if_pos hmode]
      exact ⟨_, modeNumber_ofBits v, Port.recomputes _⟩
    rw [if_neg hmode, if_neg hmode]
    by_cases hcontrol : v.toNat % 16 = 7
    · rw [if_pos hcontrol, if_pos hcontrol]
      have hreq : (q.req && v.getLsbD 7 && !v.getLsbD 4) =
          if v.getLsbD 7 = false ∨ v.getLsbD 4 = true then false else q.req := by
        cases v.getLsbD 7 <;> cases v.getLsbD 4 <;> simp
      rw [hreq]
      exact Port.recomputes _
    rw [if_neg hcontrol, if_neg hcontrol]
    by_cases henable : v.toNat % 16 = 3
    · rw [if_pos henable, if_pos henable]
      have hreq : (q.req && v.getLsbD 7) = if v.getLsbD 7 then q.req else false := by
        cases v.getLsbD 7 <;> simp
      rw [hreq]
      exact Port.recomputes _
    rw [if_neg henable, if_neg henable]

theorem Recomputes.req {q r : Port} (h : Recomputes q r) : r.req = q.req := by
  obtain ⟨_, -, rfl⟩ := h
  rfl

/-- No control byte raises a request (R497, R499). -/
theorem Port.req_of_controlWrite (h : (q.controlWrite v).req = true) : q.req = true := by
  unfold Port.controlWrite Port.recompute at h
  repeat' split at h
  all_goals simp_all

end

/-! ## The data path and the handshake -/

section

variable (p : Pio) (x : PortId) (v : Byte)

/-- A data write by the mode (R500). -/
theorem Pio.dataWrite_law :
    OnlyPort p (p.dataWrite x v) x fun r =>
      match (p.port x).mode with
      | .byteOut => r = { p.port x with out := v, ready := true }
      | .byteIn => r = { p.port x with out := v }
      | .byteBidir => r = { p.port x with out := v, ready := true }
      | .bitMode => Evaluates (x = .b ∧ p.a.mode = .byteBidir) { p.port x with out := v } r := by
  unfold Pio.dataWrite
  dsimp only
  split <;> rename_i hmode <;> rw [hmode]
  · exact onlyPort_setPort rfl
  · exact onlyPort_setPort rfl
  · exact onlyPort_setPort rfl
  · exact onlyPort_evaluate ..

/-- A change of port B alone (R506). -/
theorem onlyPort_b {q : Port} {law : Port → Prop} (h : law q) : OnlyPort p { p with b := q } .b law :=
  onlyPort_setPort (x := .b) h

/-- A data read by the mode (R501). -/
theorem Pio.dataRead_law :
    match (p.port x).mode, x with
    | .byteOut, _ => p.dataRead x = ((p.port x).out, p)
    | .byteIn, _ =>
      (p.dataRead x).1 = (p.port x).inp ∧ OnlyPort p (p.dataRead x).2 x (· = { p.port x with ready := true })
    | .byteBidir, .a =>
      (p.dataRead x).1 = (p.port x).inp ∧ OnlyPort p (p.dataRead x).2 .b (· = { p.b with ready := true })
    | .byteBidir, .b => p.dataRead x = ((p.port x).out, p)
    | .bitMode, _ => (∀ i < 8, (p.dataRead x).1.getLsbD i = visibleLine (p.port x) i) ∧ (p.dataRead x).2 = p := by
  unfold Pio.dataRead
  dsimp only
  cases hmode : (p.port x).mode with
  | byteOut => rfl
  | byteIn => exact ⟨rfl, onlyPort_setPort rfl⟩
  | byteBidir =>
    cases x with
    | a => exact ⟨rfl, onlyPort_b p rfl⟩
    | b => rfl
  | bitMode => exact ⟨fun i hi => Port.visible_getLsbD _ hi, rfl⟩

/-- The peripheral's fetch by the mode (R502). -/
theorem Pio.fetchOut_law :
    match (p.port x).mode with
    | .byteOut => (p.fetchOut x).1 = (p.port x).out ∧ OnlyPort p (p.fetchOut x).2 x (· = strobed (p.port x))
    | .byteIn => p.fetchOut x = ((p.port x).out, p)
    | .byteBidir => (p.fetchOut x).1 = (p.port x).out ∧ OnlyPort p (p.fetchOut x).2 x (· = strobed (p.port x))
    | .bitMode => (∀ i < 8, (p.fetchOut x).1.getLsbD i = visibleLine (p.port x) i) ∧ (p.fetchOut x).2 = p := by
  unfold Pio.fetchOut strobed
  dsimp only
  cases hmode : (p.port x).mode with
  | byteOut => exact ⟨rfl, onlyPort_setPort rfl⟩
  | byteIn => rfl
  | byteBidir => exact ⟨rfl, onlyPort_setPort rfl⟩
  | bitMode => exact ⟨fun i hi => Port.visible_getLsbD _ hi, rfl⟩

/-- The peripheral's strobe by the mode (R503, R506). -/
theorem Pio.putIn_law :
    match (p.port x).mode, x with
    | .byteOut, _ => OnlyPort p (p.putIn x v) x (· = { p.port x with inp := v })
    | .byteIn, _ => OnlyPort p (p.putIn x v) x (· = strobed { p.port x with inp := v })
    | .byteBidir, .a => (p.putIn x v).a = { p.port x with inp := v } ∧ (p.putIn x v).b = strobed p.b
    | .byteBidir, .b => OnlyPort p (p.putIn x v) x (· = { p.port x with inp := v })
    | .bitMode, _ =>
      OnlyPort p (p.putIn x v) x (Evaluates (x = .b ∧ p.a.mode = .byteBidir) { p.port x with inp := v }) := by
  unfold Pio.putIn strobed
  dsimp only
  cases hmode : (p.port x).mode with
  | byteOut => exact onlyPort_setPort rfl
  | byteIn => exact onlyPort_setPort rfl
  | byteBidir =>
    cases x with
    | a => exact ⟨rfl, rfl⟩
    | b => exact onlyPort_setPort rfl
  | bitMode => exact onlyPort_evaluate ..

end

/-- Settles O60: each operation by the port's mode, in mode 2 by the port as well. -/
theorem pioProtocol : Obligations.PioProtocol := by
  intro p x v q coupled read fetched
  refine ⟨onlyPort_setPort (q.controlWrite_law v), fun y hy => ?_, p.dataWrite_law x v, p.dataRead_law x,
    p.fetchOut_law x, p.putIn_law x v⟩
  rw [Pio.controlWrite, Pio.port_setPort] at hy
  split at hy
  next h => exact h ▸ Port.req_of_controlWrite _ v hy
  next => exact hy

end Sys2Proof.Machine

/-! SUPPORT. BIT, SET and RES (spec/47_bit.md R320 to R322). -/

namespace Sys2Proof.Machine

open Sys2Proof.Claim

/-! ## One bit of a byte -/

section

variable (b : BitVec 3) (v : Byte) {k : Nat} (hk : k < 8)

/-- The flags of BIT in arithmetic (R320). -/
theorem bitFlags_spec (f : Flags) :
    ((bitFlags b v f).zf = true ↔ v.toNat / 2 ^ b.toNat % 2 = 0) ∧ (bitFlags b v f).pf = (bitFlags b v f).zf ∧
      ((bitFlags b v f).sf = true ↔ b = 7 ∧ 128 ≤ v.toNat) ∧
      (bitFlags b v f).hf = true ∧ (bitFlags b v f).nf = false ∧ (bitFlags b v f).yf = v.getLsbD 5 ∧
      (bitFlags b v f).xf = v.getLsbD 3 ∧ (bitFlags b v f).cf = f.cf := by
  have hbit : v.getLsbD b.toNat = true ↔ v.toNat / 2 ^ b.toNat % 2 = 1 := testBit_iff ..
  have hmsb : v.getLsbD 7 = true ↔ 128 ≤ v.toNat := by
    rw [show v.getLsbD 7 = decide (128 ≤ v.toNat) from BitVec.msb_eq_decide v, decide_eq_true_iff]
  refine ⟨?_, rfl, ?_, rfl, rfl, rfl, rfl, rfl⟩
  · rw [bitFlags, Bool.not_eq_true', ← Bool.not_eq_true, hbit]
    omega
  · rw [bitFlags, Bool.and_eq_true, decide_eq_true_iff]
    refine and_congr_right fun hb => ?_
    subst hb
    exact hmsb

include hk

theorem setBit_getLsbD : (setBit b v).getLsbD k = if k = b.toNat then true else v.getLsbD k := by
  rw [setBit, bitMask, BitVec.getLsbD_or, BitVec.getLsbD_twoPow]
  split <;> simp_all [eq_comm]

theorem clearBit_getLsbD : (clearBit b v).getLsbD k = if k = b.toNat then false else v.getLsbD k := by
  rw [clearBit, bitMask, BitVec.getLsbD_and, BitVec.getLsbD_not, BitVec.getLsbD_twoPow]
  split <;> simp_all [eq_comm]

end

/-! ## What SET and RES write in memory -/

theorem changeMem_state (f : Byte → Byte) (a : Word) (s : State) :
    (changeMem f a s).2 =
      { s with
        draws := s.draws + drawsOf s a, mem := (changeMem f a s).2.mem, trace := (changeMem f a s).2.trace } :=
  writeAs_state true a _ (memRead a s).2

@[simp] theorem changeMem_regs (f : Byte → Byte) (a : Word) (s : State) : (changeMem f a s).2.regs = s.regs :=
  (congrArg State.regs (changeMem_state f a s) :)

/-- Without a copy the registers after a change in memory are those before it. -/
theorem changeMem_eq_withRegs (f : Byte → Byte) (a : Word) (s : State) :
    (changeMem f a s).2 = (changeMem f a s).2.withRegs s.regs := by
  rw [← changeMem_regs f a s]
  rfl

/-- The copy writes the result to `r` in the registers before the instruction (R321). -/
theorem changeIndexedCopy_eq_withRegs (f : Byte → Byte) (x : Index) (d : Byte) (r : Reg8) (s : State) :
    changeIndexedCopy f x d r s =
      (changeMem f (s.regs.indexed x d) s).2.withRegs
        (s.regs.set8 r (changeMem f (s.regs.indexed x d) s).1) := by
  rw [changeIndexedCopy, State.setReg8, changeMem_regs]

section

variable {i : Instr} {s : State} {n : Nat} {a : Word}

/-- A row that tests a bit of the byte at `a` writes the flags, T, the count of free values and the trace (R320). -/
theorem testMem_of_exec {b : BitVec 3} (h : exec i s = .next (charge n (testMem b a s))) :
    ∃ u, exec i s = .next u ∧ StoresNothing s u ∧
      u = { s with
        flags := bitFlags b (peek s a) s.flags, t := s.t + n, draws := s.draws + drawsOf s a, trace := u.trace } :=
  ⟨_, h, fun _ => rfl, rfl⟩

/-- A row that changes the byte at `a` by `f` and then has the registers `g` of the result writes the byte, where it is
RAM, these, T, the count of free values and the trace (R321, R322). -/
theorem changeMem_of_exec {f : Byte → Byte} {u : State} {g : Byte → Regs} (hm : s.mem.wf = true)
    (h : exec i s = .next (charge n u)) (hu : u = (changeMem f a s).2.withRegs (g (changeMem f a s).1)) :
    ∃ u, exec i s = .next u ∧ Stores s u a (f (peek s a)) ∧
      u = { s with
        regs := g (f (peek s a)), t := s.t + n, draws := s.draws + drawsOf s a, mem := u.mem, trace := u.trace } := by
  subst hu
  exact ⟨_, h, fun b => stored_memWrite (s := (memRead a s).2) hm a b _,
    congrArg (fun t => charge n (t.withRegs (g (changeMem f a s).1))) (changeMem_state f a s)⟩

end

theorem exec_bitIndexed (x : Index) (b : BitVec 3) (d : Byte) (z : BitVec 3) (s : State) :
    exec (x.sel (.bitAtIx b d z) (.bitAtIy b d z)) s =
      .next (charge (s.cost (x.sel (.bitAtIx b d z) (.bitAtIy b d z)) 20) (testMem b (s.regs.indexed x d) s)) := by
  cases x <;> rfl

/-- Settles O48: BIT by `bitFlags_spec`; SET and RES are `setBit` and `clearBit` of the operand, written back. -/
theorem bitSetReset : Obligations.BitSetReset := by
  intro s hm Tests TestsMemory Changed ChangesMemory Changes
  have tests {i : Instr} {b : BitVec 3} {a : Word} {cost : Nat}
      (h : exec i s = .next (charge (s.cost i cost) (testMem b a s))) : TestsMemory i b a cost := by
    obtain ⟨u, hu, hstores, hstate⟩ := testMem_of_exec h
    exact ⟨u, _, hu, hstores, bitFlags_spec b (peek s a) s.flags, hstate⟩
  have changes {on : Bool} {f : BitVec 3 → Byte → Byte} (hf : ∀ b v, Changed b on v (f b v))
      {reg : BitVec 3 → Reg8 → Instr} {atHl : BitVec 3 → Instr} {atIndex : Index → BitVec 3 → Byte → Instr}
      {copy : Index → BitVec 3 → Byte → Reg8 → Instr}
      (hreg : ∀ b r, exec (reg b r) s = .next (charge (s.cost (reg b r) 8) (changeReg (f b) r s)))
      (hHl : ∀ b, exec (atHl b) s = .next (charge (s.cost (atHl b) 15) (changeAtHl (f b) s)))
      (hIndex : ∀ x b d, exec (atIndex x b d) s =
        .next (charge (s.cost (atIndex x b d) 23) (changeIndexed (f b) x d s)))
      (hcopy : ∀ x b d r, exec (copy x b d r) s =
        .next (charge (s.cost (copy x b d r) 23) (changeIndexedCopy (f b) x d r s))) :
      Changes on reg atHl atIndex copy := by
    have memory {i : Instr} {b : BitVec 3} {a : Word} {cost : Nat} {u : State} {g : Byte → Regs}
        (h : exec i s = .next (charge (s.cost i cost) u))
        (hu : u = (changeMem (f b) a s).2.withRegs (g (changeMem (f b) a s).1)) : ChangesMemory i b on a cost g := by
      obtain ⟨u, hu, hstores, hstate⟩ := changeMem_of_exec hm h hu
      exact ⟨u, _, hu, hf b (peek s a), hstores, hstate⟩
    exact ⟨fun b r => ⟨_, hf b _, hreg b r⟩, fun b => memory (hHl b) (changeMem_eq_withRegs ..),
      fun x b d => memory (hIndex x b d) (changeMem_eq_withRegs ..),
      fun x b d r => memory (hcopy x b d r) (changeIndexedCopy_eq_withRegs ..)⟩
  exact ⟨fun b r => ⟨_, bitFlags_spec b (s.regs.get8 r) s.flags, rfl⟩, fun b => tests rfl,
    fun x b d z => tests (exec_bitIndexed x b d z s),
    changes (fun b v k hk => setBit_getLsbD b v hk) (fun _ _ => rfl) (fun _ => rfl)
      (fun x _ _ => by cases x <;> rfl) (fun x _ _ _ => by cases x <;> rfl),
    changes (fun b v k hk => clearBit_getLsbD b v hk) (fun _ _ => rfl) (fun _ => rfl)
      (fun x _ _ => by cases x <;> rfl) (fun x _ _ _ => by cases x <;> rfl)⟩

end Sys2Proof.Machine

/-! SUPPORT. Jumps, calls and returns (spec/48_jump_call_return.md R340 to R352). -/

namespace Sys2Proof.Machine

open Sys2Proof.Claim

/-! ## Conditions and targets -/

theorem cond_iff (f : Flags) (cc : Cond) : f.cond cc = true ↔ Holds f cc := by
  cases cc <;> simp [Flags.cond, Holds]

theorem jrCond_iff (f : Flags) (cc : JrCond) : f.jrCond cc = true ↔ JrHolds f cc := by
  cases cc <;> simp [Flags.jrCond, JrHolds]

/-- A relative jump adds the signed displacement to PC (R342). -/
theorem add_sext16 (pc : Word) (e : Byte) : pc + sext16 e = BitVec.ofInt 16 (pc.toNat + e.toInt) := by
  rw [BitVec.ofInt_add, BitVec.ofInt_natCast, BitVec.ofNat_toNat, BitVec.setWidth_eq]
  rfl

theorem jumpRelative_eq (e : Byte) (s : State) :
    jumpRelative e s = { s with pc := BitVec.ofInt 16 (s.pc.toNat + e.toInt) } := by
  rw [← add_sext16]
  rfl

section

variable {i : Instr} {s u v : State} {m n : Nat} {f : Bool} {P : Prop}

/-- A row with two counts whose condition is `P`. -/
theorem exec_of_condition (hf : f = true ↔ P) (h : exec i s = .next (if f then u else v)) :
    (P → exec i s = .next u) ∧ (¬P → exec i s = .next v) := by
  rw [← hf]
  exact ⟨fun hp => by rw [h, if_pos hp], fun hp => by rw [h, if_neg hp]⟩

end

/-- Settles O49: each jump is a write of PC, and of B for DJNZ. -/
theorem jumps : Obligations.Jumps := by
  intro s Goes target
  have relative {i : Instr} {e : Byte} {t : State} {n : Nat}
      (h : exec i s = .next (charge n (jumpRelative e t))) (ht : t.pc = s.pc) :
      exec i s = .next { t with pc := target e, t := t.t + n } := by
    rw [h, jumpRelative_eq, ht]
    rfl
  refine ⟨fun nn => rfl, fun cc nn => ?absolute, fun e => relative (t := s) rfl rfl, fun cc e => ?relative, rfl,
    fun x => by cases x <;> rfl, fun e => ⟨fun hb => ?loops, fun hb => ?ends⟩⟩
  case absolute =>
    refine exec_of_condition (cond_iff s.flags cc) ?_
    exact congrArg Host.Outcome.next (apply_ite (charge (s.cost (.jpC cc nn) 10)) _ _ _)
  case relative =>
    obtain ⟨htaken, hnot⟩ := exec_of_condition (jrCond_iff s.flags cc) (rfl : exec (.jrC cc e) s = _)
    exact ⟨fun h => relative (t := s) (htaken h) rfl, hnot⟩
  case loops =>
    have hb' : s.regs.b - 1 ≠ 0 := sub_ne_zero.2 hb
    refine relative (t := s.setReg8 .b (s.regs.b - 1)) ?_ rfl
    exact congrArg Host.Outcome.next (if_pos hb')
  case ends =>
    have hb' : s.regs.b - 1 = 0 := sub_eq_zero.2 hb
    have hleft : (s.setReg8 .b (s.regs.b - 1)) = s.setReg8 .b 0 := congrArg (s.setReg8 .b) hb'
    exact congrArg Host.Outcome.next
      ((if_neg (not_not.2 hb')).trans (congrArg (charge (s.costNot (.djnz e) 8)) hleft))

/-! ## Calls -/

section

variable {i : Instr} {s : State} {a : Word} {n : Nat}

/-- A row that calls `a` writes PC to memory below SP, SP, PC, T and the trace (R346). -/
theorem call_of_exec (hm : s.mem.wf = true) (h : exec i s = .next (charge n (callTo a s))) :
    ∃ u, exec i s = .next u ∧ StoresWord s u (s.regs.sp - 2) s.pc ∧
      u = { s with
        regs := { s.regs with sp := s.regs.sp - 2 }, pc := a, t := s.t + n, mem := u.mem, trace := u.trace } :=
  ⟨_, h, stored_push16 hm s.pc, congrArg (fun u => charge n (setPc a u)) (push16_state s.pc s)⟩

theorem returnFromCall_state (s : State) :
    returnFromCall s =
      { s with
        regs := { s.regs with sp := s.regs.sp + 2 }, pc := wordAt s s.regs.sp
        draws := s.draws + wordDraws s s.regs.sp, trace := (returnFromCall s).trace } := by
  rw [returnFromCall, pop16_eq_wordAt]
  rfl

/-- A row that returns writes SP, PC, T, the count of free values and the trace (R348). -/
theorem return_of_exec (h : exec i s = .next (charge n (returnFromCall s))) :
    ∃ u, exec i s = .next u ∧ StoresNothing s u ∧
      u = { s with
        regs := { s.regs with sp := s.regs.sp + 2 }, pc := wordAt s s.regs.sp, t := s.t + n
        draws := s.draws + wordDraws s s.regs.sp, trace := u.trace } :=
  ⟨_, h, fun _ => rfl, congrArg (charge n) (returnFromCall_state s)⟩

end

/-- Settles O50: CALL and RST are `callTo`, RET is `returnFromCall`; the conditional forms do nothing else. -/
theorem callsAndReturns : Obligations.CallsAndReturns := by
  intro s hm Calls Returns
  refine ⟨fun nn => call_of_exec hm rfl, fun cc nn => ?_, fun k => call_of_exec hm rfl, return_of_exec rfl,
    fun cc => ?_⟩
  · obtain ⟨htaken, hnot⟩ := exec_of_condition (cond_iff s.flags cc) (rfl : exec (.callC cc nn) s = _)
    exact ⟨fun h => call_of_exec hm (htaken h), hnot⟩
  · obtain ⟨htaken, hnot⟩ := exec_of_condition (cond_iff s.flags cc) (rfl : exec (.retC cc) s = _)
    exact ⟨fun h => return_of_exec (htaken h), hnot⟩

/-! ## Returns from an interrupt -/

section

variable {s u : State} {id : SourceId}

theorem finishService_of_none (h : ∀ id ∈ s.platform.intSources, sourceAccepted s id = false) :
    finishService s = s := by
  rw [finishService, List.find?_eq_none.2 fun id hid => Bool.eq_false_iff.1 (h id hid)]

theorem finishService_of_first {before after : List SourceId} (hids : s.platform.intSources = before ++ id :: after)
    (hid : sourceAccepted s id = true) (hbefore : ∀ x ∈ before, sourceAccepted s x = false) :
    finishService s = sourceFinish id s := by
  have hfind : s.platform.intSources.find? (sourceAccepted s) = some id :=
    List.find?_eq_some_iff_append.2 ⟨hid, before, after, hids, fun x hx => by rw [hbefore x hx]; rfl⟩
  rw [finishService, hfind]

theorem sourceAccepted_congr (hc : u.ctcs = s.ctcs) (hp : u.pios = s.pios) (id : SourceId) :
    sourceAccepted u id = sourceAccepted s id := by
  unfold sourceAccepted
  rw [hc, hp]

/-- What finishing a source's service does to the chips depends on the chips only. -/
theorem sourceFinish_congr (hc : u.ctcs = s.ctcs) (hp : u.pios = s.pios) (id : SourceId) :
    (sourceFinish id u).ctcs = (sourceFinish id s).ctcs ∧ (sourceFinish id u).pios = (sourceFinish id s).pios := by
  cases id with
  | ctc k =>
    simp only [sourceFinish, hc]
    cases s.ctcs[k]? <;> simp [hc, hp]
  | pio k =>
    simp only [sourceFinish, hp]
    cases s.pios[k]? <;> simp [hc, hp]

theorem returnFromInterrupt_state (s : State) :
    returnFromInterrupt s =
      { s with
        regs := { s.regs with sp := s.regs.sp + 2 }, pc := wordAt s s.regs.sp, iff1 := s.iff2
        draws := s.draws + wordDraws s s.regs.sp, trace := (returnFromInterrupt s).trace } :=
  congrArg (fun u : State => { u with iff1 := u.iff2 }) (returnFromCall_state s)

/-- `s` with the chips of `u`. -/
def withChipsOf (u s : State) : State := { s with ctcs := u.ctcs, pios := u.pios }

/-- RETI writes no more than the return and the chips. -/
theorem finishService_returnFromInterrupt (s : State) :
    finishService (returnFromInterrupt s) =
      { s with
        regs := { s.regs with sp := s.regs.sp + 2 }, pc := wordAt s s.regs.sp, iff1 := s.iff2
        draws := s.draws + wordDraws s s.regs.sp
        ctcs := (finishService (returnFromInterrupt s)).ctcs
        pios := (finishService (returnFromInterrupt s)).pios
        trace := (finishService (returnFromInterrupt s)).trace } := by
  have hstate := finishService_state (returnFromInterrupt s)
  have htrace : (finishService (returnFromInterrupt s)).trace = (returnFromInterrupt s).trace :=
    (congrArg State.trace hstate :)
  rw [htrace]
  exact hstate.trans (congrArg (withChipsOf (finishService (returnFromInterrupt s))) (returnFromInterrupt_state s))

end

/-- Settles O51: RETI and RETN are `returnFromInterrupt`, which leaves the chips; RETI then finishes a service. -/
theorem interruptReturn : Obligations.InterruptReturn := by
  intro s After
  have hreturn := returnFromInterrupt_state s
  have hsame := sourceAccepted_congr (u := returnFromInterrupt s) (s := s) rfl rfl
  have hfinish := finishService_returnFromInterrupt s
  refine ⟨⟨_, rfl, ⟨?stored, congrArg (charge (s.cost .reti 14)) hfinish⟩, fun hnone => ?none,
      fun before id after hids hid hbefore => ?first⟩,
    fun x => ⟨_, rfl, ⟨fun _ => rfl, congrArg (charge (s.cost (.retn x) 14)) hreturn⟩, rfl, rfl⟩⟩
  case stored =>
    intro b
    have hstored := congrArg (fun u => stored u b) hfinish
    exact hstored
  case none =>
    rw [finishService_of_none fun id hid => (hsame id).trans (hnone id hid)]
    exact ⟨rfl, rfl⟩
  case first =>
    rw [finishService_of_first (s := returnFromInterrupt s) hids ((hsame id).trans hid)
      fun x hx => (hsame x).trans (hbefore x hx)]
    exact sourceFinish_congr (u := returnFromInterrupt s) (s := s) rfl rfl id

end Sys2Proof.Machine

/-! SUPPORT. Input and output (spec/49_io.md R370 to R384): the single transfers, and one step of the block forms. -/

namespace Sys2Proof.Machine

open Sys2Proof.Claim

/-! ## Port accesses and the fields they leave -/

theorem ioRead_t (p : Word) (s : State) : (ioRead p s).2.t = s.t := (congrArg State.t (ioRead_state p s) :)

theorem ioRead_mem (p : Word) (s : State) : (ioRead p s).2.mem = s.mem := (congrArg State.mem (ioRead_state p s) :)

theorem ioRead_pc (p : Word) (s : State) : (ioRead p s).2.pc = s.pc := (congrArg State.pc (ioRead_state p s) :)

theorem ioWrite_t (p : Word) (v : Byte) (s : State) : (ioWrite p v s).t = s.t :=
  (congrArg State.t (ioWrite_state p v s) :)

theorem ioWrite_pc (p : Word) (v : Byte) (s : State) : (ioWrite p v s).pc = s.pc :=
  (congrArg State.pc (ioWrite_state p v s) :)

theorem ioWrite_mem (p : Word) (v : Byte) (s : State) : (ioWrite p v s).mem = s.mem :=
  (congrArg State.mem (ioWrite_state p v s) :)

/-! ## The single transfers -/

section

variable {i : Instr} {s : State} {p : Word} {n : Nat}

/-- A row that writes `v` to port `p` and nothing else (R373 to R375). -/
theorem completes_of_ioWrite {v : Byte} (h : exec i s = .next (charge (s.cost i n) (ioWrite p v s))) :
    Completes i s n { ioWrite p v s with t := s.t } := by
  rw [charge, ioWrite_t] at h
  exact h

/-- A row that reads port `p`, writes registers by `g` and sets the flags `f` (R370 to R372). -/
theorem completes_of_ioRead {g : Regs → Regs} {f : Flags}
    (h : exec i s = .next (charge (s.cost i n)
      (((ioRead p s).2.withRegs (g (ioRead p s).2.regs)).withFlags f))) :
    Completes i s n { (ioRead p s).2 with regs := g s.regs, flags := f, t := s.t } := by
  rw [ioRead_regs] at h
  rw [Completes, h, ← ioRead_t p s]
  rfl

end

/-- Settles O52: one port access, then for IN the register and the flags. -/
theorem portInOut : Obligations.PortInOut := by
  intro s atC
  refine ⟨fun n => ?_, fun r => ⟨_, ?_, inFlags_byteFlags _ s.flags⟩, ⟨_, ?_, inFlags_byteFlags _ s.flags⟩,
    fun n => completes_of_ioWrite rfl, fun r => completes_of_ioWrite rfl, completes_of_ioWrite rfl⟩
  · exact completes_of_ioRead (g := fun g => { g with a := (ioRead (mkWord s.regs.a n) s).1 })
      (f := (ioRead (mkWord s.regs.a n) s).2.flags) rfl
  · exact completes_of_ioRead (g := fun g => g.set8 r atC.1) rfl
  · rw [Completes, ← ioRead_t s.regs.bc s]
    rfl

/-! ## One step of a block instruction -/

theorem ioBlockFlags_blockIoFlags (b v : Byte) (k : Nat) : BlockIoFlags b v k (ioBlockFlags b v k) :=
  ⟨⟨rfl, decide_eq_true_iff, rfl, rfl⟩, rfl, decide_eq_true_iff, decide_eq_true_iff, parity_spec _⟩

/-- One step of INI or IND writes HL, B, the flags, memory, the trace and what the port read writes (R377, R379). -/
theorem inBlock_state (step : Word) (s : State) :
    inBlock step s =
      { (ioRead s.regs.bc s).2 with
        regs := { s.regs.setHl (s.regs.hl + step) with b := s.regs.b - 1 }
        flags := ioBlockFlags (s.regs.b - 1) (ioRead s.regs.bc s).1
          ((ioRead s.regs.bc s).1.toNat + (s.regs.c + loByte step).toNat)
        mem := (inBlock step s).mem
        trace := (inBlock step s).trace } := by
  unfold inBlock memWrite
  simp only
  rw [writeAs_state]
  rfl

/-- One step of INI or IND stores the byte of the port at HL. -/
theorem stores_inBlock {s : State} (hm : s.mem.wf = true) (step : Word) :
    Stores s (inBlock step s) s.regs.hl (ioRead s.regs.bc s).1 := by
  intro b
  have hstored := stored_memWrite (s := (ioRead s.regs.bc s).2) ((ioRead_mem s.regs.bc s).symm ▸ hm) s.regs.hl b
    (ioRead s.regs.bc s).1
  rw [ioRead_platform] at hstored
  have hsame : stored (ioRead s.regs.bc s).2 b = stored s b := by
    rw [stored, stored, ioRead_mem]
  rw [← hsame]
  exact hstored

/-- One step of OUTI or OUTD writes HL, B, the flags and what the port write writes (R381, R383). -/
theorem outBlock_state (step : Word) (s : State) :
    outBlock step s =
      { ioWrite (mkWord (s.regs.b - 1) s.regs.c) (peek s s.regs.hl) (memRead s.regs.hl s).2 with
        regs := { s.regs.setHl (s.regs.hl + step) with b := s.regs.b - 1 }
        flags := ioBlockFlags (s.regs.b - 1) (peek s s.regs.hl)
          ((peek s s.regs.hl).toNat + (loByte (s.regs.hl + step)).toNat) } := rfl

theorem storesNothing_outBlock (step : Word) (s : State) : StoresNothing s (outBlock step s) := fun b => by
  rw [outBlock_state, stored, stored, ioWrite_mem]
  rfl

/-- Settles O54: every form is `inBlock` or `outBlock` and then `repeatIf`, with `again` false in the single ones. -/
theorem blockIo : Obligations.BlockIo := by
  intro s hm g b Reads Writes more
  have reads {i : Instr} {step : Word} {again : Bool} {taken other : Nat}
      (h : exec i s = .next (repeatIf taken other again (inBlock step s))) :
      Reads i (g.hl + step) (g.c + loByte step) again (if again then taken else other) := by
    have hstate := congrArg (repeatIf taken other again) (inBlock_state step s)
    rw [repeatIf_eq, repeatIf_eq] at hstate
    simp only [ioRead_pc, ioRead_t] at hstate
    rw [repeatIf_eq] at h
    exact ⟨_, _, h, stores_inBlock hm step, hstate, ioBlockFlags_blockIoFlags ..⟩
  have writes {i : Instr} {step : Word} {again : Bool} {taken other : Nat}
      (h : exec i s = .next (repeatIf taken other again (outBlock step s))) :
      Writes i (g.hl + step) again (if again then taken else other) := by
    have hstate := congrArg (repeatIf taken other again) (outBlock_state step s)
    rw [repeatIf_eq, repeatIf_eq] at hstate
    simp only [ioWrite_pc, ioWrite_t] at hstate
    rw [repeatIf_eq] at h
    exact ⟨_, _, h, storesNothing_outBlock step s, hstate, ioBlockFlags_blockIoFlags ..⟩
  rw [BitVec.sub_eq_add_neg g.hl, BitVec.sub_eq_add_neg g.c]
  exact ⟨reads (step := 1) (again := false) (taken := 0) rfl, reads (step := 1) (again := more) rfl,
    reads (step := -1) (again := false) (taken := 0) rfl, reads (step := -1) (again := more) rfl,
    writes (step := 1) (again := false) (taken := 0) rfl, writes (step := 1) (again := more) rfl,
    writes (step := -1) (again := false) (taken := 0) rfl, writes (step := -1) (again := more) rfl⟩

end Sys2Proof.Machine
